-- ==== Sys2Proof/Word.lean ====
section
/-! DEFINITION. The words of the machine: bytes of memory, the 32-bit general registers
(10_state.md R11, R13) and the 64-bit ones (R12, R14). -/

namespace Sys2Proof

/-- One byte of memory or of an instruction. -/
abbrev Byte := BitVec 8

/-- A 32-bit general register: EAX, EBX, ECX, EDX (10_state.md R11 to R13). -/
abbrev Word32 := BitVec 32

/-- A 64-bit register: RCX, and the carrier of the program counter (10_state.md R12, R14). -/
abbrev Word64 := BitVec 64

end Sys2Proof
end

