-- ==== Sys2Proof/Config.lean ====
section
/-! DEFINITION. What an implementation fixes (00_scope.md R5) and the free values: what the spec
leaves to the implementation at each step (`choose` in R9, "a draw"). -/

namespace Sys2Proof

/-- `ADDR_WIDTH` ∈ {16, 32, 64}: the width of the instruction pointer (00_scope.md R5, D4). -/
inductive AddrWidth where
  | w16
  | w32
  | w64
  deriving DecidableEq, Repr

/-- The number of bits of an `AddrWidth`. -/
def AddrWidth.bits : AddrWidth → Nat
  | .w16 => 16
  | .w32 => 32
  | .w64 => 64

/-- `FAULT_PRIORITY`: which exception is reported when a #UD and a #GP condition of MWAIT hold
together (00_scope.md R5, 60_exceptions.md R93, D1). -/
inductive FaultPriority where
  /-- Every #UD condition is evaluated before any #GP condition (the spec's default). -/
  | udFirst
  /-- Either exception may be reported where the #GP condition is well defined. -/
  | either
  deriving DecidableEq, Repr

/-- An optimized state: C-state number and sub C-state within it (41_mwait.md R68). -/
structure CState where
  number : Nat
  sub : Nat
  deriving DecidableEq, Repr

/-- What of a guest's executions leaves the guest to the VMM (00_scope.md R5, D22). -/
structure VmmIntercept where
  /-- MONITOR is intercepted (60_exceptions.md R99 item 2). -/
  monitor : Bool
  /-- MWAIT is intercepted (R99 item 3). -/
  mwait : Bool
  deriving DecidableEq, Repr

/-- The configuration (00_scope.md R5): what software reads through CPUID while the feature is
enabled, and what the source leaves to the implementation. -/
structure Config where
  /-- `cfg.MONITOR_HW`: MONITOR and monitored MWAIT are implemented (R50). -/
  monitorHw : Bool
  /-- `cfg.MWAIT_HW`: what CPUID.(EAX=07H, ECX=01H):EDX.MWAIT[bit 23] reports while enabled (R54). -/
  mwaitHw : Bool
  /-- `cfg.MONITORLESS`: CPUID.05H:ECX.MONITORLESS_MWAIT[bit 3] (R53). -/
  monitorless : Bool
  /-- `cfg.IBE`: CPUID.05H:ECX[bit 1], MWAIT may be executed with ECX[0] = 1 (R52). -/
  ibe : Bool
  /-- `cfg.EMX`: CPUID.05H:ECX[bit 0], MWAIT extensions for power management (R52). -/
  emx : Bool
  /-- `cfg.MONITOR_RANGE_SIZE`: the size in bytes of the monitored range (R31). -/
  rangeSize : Nat
  /-- `cfg.CSTATES`: the optimized states the implementation has (R68). No rule reads it: a hint for
  an absent state is no fault (I6, D8). -/
  cstates : List CState
  /-- `MISC_ENABLE_RESET`: IA32_MISC_ENABLE[18] after reset (R24, R110). -/
  miscEnableReset : Bool
  /-- `ADDR_WIDTH` (R14, D4). -/
  addrWidth : AddrWidth
  /-- `FAULT_PRIORITY` (R93, D1). -/
  faultPriority : FaultPriority
  /-- `VmmIntercept`: which executions leave the guest to the VMM; absent outside a guest (R99, D22,
  I13). Interception is no step of the machine: `guestExec` reads it, `exec` does not (assumption 32). -/
  vmmIntercept : Option VmmIntercept
  deriving DecidableEq, Repr

/-- The configuration State.reset is made with. DESIGN CHOICE (assumption 3): the source fixes none;
every feature present, so that every instruction can run from reset. -/
def Config.standard : Config where
  monitorHw := true
  mwaitHw := true
  monitorless := true
  ibe := true
  emx := true
  rangeSize := 64
  cstates := [⟨0, 0⟩, ⟨1, 0⟩]
  miscEnableReset := true
  addrWidth := .w16
  faultPriority := .udFirst
  vmmIntercept := none

/-- Which of its three states the monitor hardware is drawn in where the spec leaves it
unspecified (after a write of 0 to IA32_MISC_ENABLE[18], D19). -/
inductive MonitorDraw where
  | idle
  | armed
  | triggered
  deriving DecidableEq, Repr, Inhabited

/-- Everything one step may have to choose where the spec has a draw. Each use names its rule. -/
structure Draw where
  /-- Under `FAULT_PRIORITY = either`: report #GP in place of #UD (D1). -/
  reportGp : Bool
  /-- MWAIT enters the optimized state rather than skipping (R66, D3). -/
  enter : Bool
  /-- A completed monitorless MWAIT triggers the monitor (R73, D2). -/
  trigger : Bool
  /-- MONITOR arms rather than failing to (R80, D27). -/
  arm : Bool
  /-- How far below the address given the monitored range starts (R31, D15). -/
  placement : Nat
  /-- A non-processor agent's store during a wait triggers the monitor (R33, D16). -/
  storeTriggers : Bool
  /-- An implementation-dependent event ends the wait (R71). -/
  wake : Bool
  /-- A pending unmasked event is delivered at this instruction boundary (R97, I12). -/
  deliver : Bool
  /-- Which of the pending unmasked events is delivered (X16). -/
  which : Nat
  /-- The monitor hardware after bit 18 is cleared (D19). -/
  disabled : MonitorDraw
  /-- Where the range starts if `disabled` draws an armed monitor (D19). -/
  disabledBase : Nat
  /-- CPUID's output bits that the source does not name (R59, D12, X3). -/
  eax : Word32
  ebx : Word32
  ecx : Word32
  edx : Word32
  /-- Bits 63:32 of RCX after CPUID, of which the source says nothing (assumption 27). -/
  rcxHigh : Word32
  deriving DecidableEq, Repr, Inhabited

/-- The free values: an uninterpreted constant, applied to the counter `draws` of State. Nothing can
be proved of any of its values, so a theorem holds whatever they are (assumption 31). -/
opaque Config.draw : Nat → Draw

end Sys2Proof
end

