-- ==== Sys2Proof/Syntax.lean ====
section
/-! DEFINITION. The instructions: one constructor per row of spec/opcode_table.json. No row has a
field or an explicit operand (30_encoding.md R40, R41): every operand is an implicit register. -/

namespace Sys2Proof

/-- The rows of the opcode table. -/
inductive Instr where
  /-- MWAIT, `0F 01 C9` (30_encoding.md R40; meaning 41_mwait.md R75). -/
  | mwait
  /-- MONITOR, `0F 01 C8` (30_encoding.md R47; meaning 42_monitor_hlt.md R80, R81). -/
  | monitor
  /-- CPUID, `0F A2` (30_encoding.md R47; meaning 40_enumeration_enabling.md R59). -/
  | cpuid
  deriving DecidableEq, Repr

end Sys2Proof
end

