-- ==== Sys2Proof/WellFormed.lean ====
section
/-! DEFINITION. Well-formedness: of an instruction (no instruction has a field, so every one is), of a
configuration, and of the configurations of a hybrid CPU's cores (40_enumeration_enabling.md R55, R57). -/

namespace Sys2Proof

/-- Every encoding of the table is made of fixed bits only (30_encoding.md R40, R47), so every
instruction is well formed. -/
def Instr.wellFormed : Instr → Bool
  | .mwait => true
  | .monitor => true
  | .cpuid => true

/-- The monitored range has at least the byte MONITOR was given (20_memory.md R31), and CSTATES is a
set: no state is listed twice (00_scope.md R5). Constraints 1 and 2 of R55 hold of every
configuration by the way the CPUID bits are computed (10_state.md R19). -/
def Config.wellFormed (c : Config) : Bool :=
  decide (0 < c.rangeSize) && decide c.cstates.Nodup

/-- Constraint 3 of R55: every core of a hybrid CPU enumerates MONITOR, MWAIT and
MONITORLESS_MWAIT alike ("Cores in hybrid CPU support MWAIT consistently", R57).

DESIGN CHOICE (assumption 45): the spec's `m` and `w` are readings, bit 18 included (R19), and it does
not say whether bit 18, or MISC_ENABLE_RESET, agrees across the cores of one CPU. The check compares
the configuration's raw bits only, so cores that differ in bit 18 or in MISC_ENABLE_RESET pass, although
`m` and `w` then read differently on them. It compares MONITORLESS also on cores with MONITOR_HW =
MWAIT_HW = 0, where leaf 05H is not supported and `l` has no value (R53, R55, first row; 00_scope.md
R5): such cores that differ in MONITORLESS are refused, of which the spec says nothing. -/
def Config.hybridConsistent : List Config → Bool
  | [] => true
  | c :: rest => rest.all fun d =>
      d.monitorHw == c.monitorHw && d.mwaitHw == c.mwaitHw && d.monitorless == c.monitorless

end Sys2Proof
end

