-- ==== Sys2Proof/Decode.lean ====
section
/-! DEFINITION. Decoding bytes into an instruction, total and rejecting by name, and the encoder
(30_encoding.md R40, R42, R45, R47). -/

namespace Sys2Proof

/-- Why the decoder gives no meaning to bytes (30_encoding.md R45, D20). -/
inductive DecodeError where
  /-- The bytes end before an instruction of the table is complete. -/
  | truncated
  /-- The first byte is not `0F`: a prefix, HLT, or any instruction outside the table. -/
  | notEscape (b : Byte)
  /-- `0F` is followed by a byte that starts no row of the table. -/
  | unknownSecond (b : Byte)
  /-- `0F 01` is followed by neither `C8` nor `C9`. -/
  | unknownThird (b : Byte)
  deriving DecidableEq, Repr

/-- The bytes after `0F 01` (30_encoding.md R40, R47). -/
def decodeGroup : List Byte → Except DecodeError (Instr × List Byte)
  | [] => .error .truncated
  | b :: rest =>
    if b = 0xC9#8 then .ok (.mwait, rest)
    else if b = 0xC8#8 then .ok (.monitor, rest)
    else .error (.unknownThird b)

/-- The bytes after `0F` (30_encoding.md R40, R47). -/
def decodeEscaped : List Byte → Except DecodeError (Instr × List Byte)
  | [] => .error .truncated
  | b :: rest =>
    if b = 0x01#8 then decodeGroup rest
    else if b = 0xA2#8 then .ok (.cpuid, rest)
    else .error (.unknownSecond b)

/-- The instruction at the head of a list of bytes in ascending address order (30_encoding.md R42,
D5), with the bytes after it. -/
def decode : List Byte → Except DecodeError (Instr × List Byte)
  | [] => .error .truncated
  | b :: rest =>
    if b = 0x0F#8 then decodeEscaped rest else .error (.notEscape b)

/-- The bytes of an instruction in ascending address order (30_encoding.md R40, R47). -/
def encode : Instr → List Byte
  | .mwait => [0x0F#8, 0x01#8, 0xC9#8]
  | .monitor => [0x0F#8, 0x01#8, 0xC8#8]
  | .cpuid => [0x0F#8, 0xA2#8]

/-- The length in bytes: 3 for MWAIT and MONITOR, 2 for CPUID (30_encoding.md R42, R47). -/
def Instr.length (i : Instr) : Nat := (encode i).length

/-- The length of the longest instruction of the table. -/
def maxLength : Nat := 3

/-- The bytes of a table word of `n` bytes. The table's literal lists the bytes in fetch order, the
first byte in the most significant position (30_encoding.md R40). -/
def wordBytes : Nat → Nat → List Byte
  | 0, _ => []
  | n + 1, w => BitVec.ofNat 8 (w >>> (8 * n)) :: wordBytes n w

/-- The bytes of a table word of `nbits` bits as the hardware stores them, with zero bytes up to the
longest instruction. -/
def tableBytes (nbits w : Nat) : List Byte :=
  wordBytes (nbits / 8) w ++ List.replicate (maxLength - nbits / 8) 0#8

/-- What the decoder reads from a word of spec/opcode_table.json, in the table's own numbering. -/
def decodeTableWord (nbits w : Nat) : Option Instr :=
  match decode (tableBytes nbits w) with
  | .ok (i, _) => some i
  | .error _ => none

end Sys2Proof
end

