-- ==== Sys2Proof/Machine/State.lean ====
section
/-! DEFINITION. The state of the logical processor (10_state.md), as plain data, the reasons a step can
stop, and the machine after reset. -/

namespace Sys2Proof.Machine

/-- The operating modes (10_state.md R17). -/
inductive Mode where
  /-- `Real`: real-address mode. -/
  | real
  /-- `Protected`: protected mode. -/
  | protectedMode
  /-- `V8086`: virtual-8086 mode. -/
  | v8086
  /-- `Compat`: compatibility mode. -/
  | compat
  /-- `Long64`: 64-bit mode. -/
  | long64
  deriving DecidableEq, Repr

/-- A monitored address range: `size` consecutive byte addresses from `base` (20_memory.md R31). -/
structure Range where
  base : Nat
  size : Nat
  deriving DecidableEq, Repr

/-- The monitor hardware (10_state.md R21). -/
inductive Monitor where
  /-- No MONITOR has armed it. -/
  | idle
  /-- MONITOR armed it and no store to the range has happened since. -/
  | armed (r : Range)
  /-- A store hit the range, or MWAIT ran. -/
  | triggered
  deriving DecidableEq, Repr

/-- The run state (10_state.md R22). -/
inductive Run where
  /-- The processor fetches and executes instructions. -/
  | executing
  /-- The processor waits; `hint` is the value EAX had and `ext` the value ECX (zero-extended) or RCX
  had when MWAIT entered the state. -/
  | optimized (hint : Word32) (ext : Word64)
  deriving DecidableEq, Repr

/-- The kinds of event the platform raises (10_state.md R23, 60_exceptions.md R95). -/
inductive EventKind where
  | nmi
  | smi
  | extInt
  | machineCheck
  | debug
  | binit
  | init
  | reset
  | implDependent
  deriving DecidableEq, Repr

/-- The set of pending events (10_state.md R23): one bit for each kind (assumption 36). -/
structure Pending where
  nmi : Bool
  smi : Bool
  extInt : Bool
  machineCheck : Bool
  debug : Bool
  binit : Bool
  init : Bool
  reset : Bool
  implDependent : Bool
  deriving DecidableEq, Repr

/-- No event pending. -/
def Pending.none : Pending :=
  ⟨false, false, false, false, false, false, false, false, false⟩

/-- Who makes a store (10_state.md R10, 20_memory.md R32, R33). -/
inductive Agent where
  /-- The logical processor itself, by an instruction outside the spec (R32: "names no agent"). -/
  | thisProcessor
  /-- Another processor agent. -/
  | otherProcessor
  /-- A non-processor agent. -/
  | nonProcessor
  deriving DecidableEq, Repr

/-- One act of one agent (10_state.md R10). The list of them in State says who moves next. -/
inductive Turn where
  /-- The logical processor moves: it executes an instruction, takes an event, waits or wakes. -/
  | processor
  /-- An agent stores bytes from an address upwards (20_memory.md R32). -/
  | store (by_ : Agent) (addr : Nat) (bytes : List Byte)
  /-- The platform raises an event (R23). -/
  | raise (k : EventKind)
  /-- System software writes IA32_MISC_ENABLE[18] (R18, 40_enumeration_enabling.md R58). -/
  | writeMiscEnable (b : Bool)
  deriving DecidableEq, Repr

/-- Memory: the bytes that have been written, addresses strictly rising (20_memory.md R37). An address
that is not listed has no value (assumption 6). -/
abbrev Memory := List Host.Cell

/-- The state of the machine. Each field names its rule. -/
structure State where
  /-- EAX: hints of MWAIT, address of MONITOR, leaf of CPUID (R11). -/
  eax : Word32
  /-- EBX: an output of CPUID (40_enumeration_enabling.md R59). -/
  ebx : Word32
  /-- RCX, whose low half is ECX: extensions of MWAIT, sub-leaf and output of CPUID (R12). -/
  rcx : Word64
  /-- EDX: third operand of MONITOR, output of CPUID (R13). -/
  edx : Word32
  /-- The address of the instruction being executed; below 2^`ADDR_WIDTH` (R14, D4). -/
  pc : Word64
  /-- EFLAGS.IF (R15). -/
  intFlag : Bool
  /-- The current privilege level (R16). -/
  cpl : BitVec 2
  /-- The operating mode (R17). -/
  mode : Mode
  /-- IA32_MISC_ENABLE.ENABLE_MONITOR_FSM[bit 18] (R18). -/
  miscEnable : Bool
  /-- The monitor hardware (R21). -/
  monitor : Monitor
  /-- The run state (R22). -/
  run : Run
  /-- The pending events (R23). -/
  pending : Pending
  /-- Memory (20_memory.md R37). -/
  mem : Memory
  /-- The configuration, hardwired: no step writes it (00_scope.md R5, R19; assumption 4). -/
  cfg : Config
  /-- The model's own counter of free values taken (assumption 31). -/
  draws : Nat
  /-- The model's own list of turns to come, the next one first (R10; assumption 30). When it is
  empty the logical processor moves. -/
  agenda : List Turn
  deriving DecidableEq, Repr

/-- The outcomes that end a run: the exceptions and events whose delivery the spec leaves out (D11,
D26), each with the state the delivery would start from, and the model's own fault. -/
inductive Fault where
  /-- `Fault(#UD)` at the pc of the faulting instruction, state unchanged. Raised by MWAIT (41_mwait.md
  R61) and MONITOR (42_monitor_hlt.md R81). Safe: nothing is claimed of the handler (D11). -/
  | invalidOpcode (s : State)
  /-- `Fault(#GP)` with its error code, none where the source writes none (real-address mode, C7), at
  the pc of MWAIT, state unchanged. Raised by MWAIT (R62). Safe, as above. -/
  | generalProtection (code : Option Nat) (s : State)
  /-- `Event(kind)` at the pc of the next instruction, the event removed from `pending`. Raised at an
  instruction boundary (60_exceptions.md R97, D26). Safe: nothing is claimed after it. -/
  | event (k : EventKind) (s : State)
  /-- The fetch reads an address nothing has written. Raised by the fetch. Safe: the model stops
  where the hardware would read some byte (assumption 6). -/
  | unwrittenByte (addr : Nat) (s : State)
  deriving DecidableEq, Repr

/-- The inputs to which the spec gives no meaning. -/
inductive Refusal where
  /-- An instruction without a meaning yet. Raised by exec's arm only. Safe. -/
  | notModelled (mnemonic : String)
  /-- The bytes at pc are no instruction of the table, prefixed forms included (30_encoding.md R45,
  D20). Raised by the fetch. Safe. -/
  | noMeaning (e : DecodeError)
  /-- The instruction's bytes wrap the top of the address space (D4, X7). Raised by the fetch. Safe. -/
  | fetchWraps
  /-- A write of IA32_MISC_ENABLE[18] while the processor waits (D19, X11). Raised by that turn.
  Safe. -/
  | miscEnableWhileWaiting
  /-- A store of the waiting processor itself, which executes nothing (10_state.md R22); a store it made
  before MWAIT that became visible only now is refused with it (assumption 46). Raised by that turn.
  Safe: the model stops there. -/
  | ownStoreWhileWaiting
  deriving DecidableEq, Repr

/-- The machine after reset with a given configuration. `monitor` and `run` are the spec's own
decision D7, `miscEnable` the parameter of R110; the spec states no value for any other field and
the ones here are named in assumptions 1, 2 and 5. -/
def State.resetWith (c : Config) : State where
  eax := 0
  ebx := 0
  rcx := 0
  edx := 0
  pc := 0xFFF0
  intFlag := false
  cpl := 0
  mode := .real
  miscEnable := c.miscEnableReset
  monitor := .idle
  run := .executing
  pending := .none
  mem := []
  cfg := c
  draws := 0
  agenda := []

/-- The machine right after reset (10_state.md R24, 70_reset_and_hazards.md R110; assumption 3 names
the configuration). -/
def State.reset : State := State.resetWith Config.standard

end Sys2Proof.Machine
end

