-- ==== Sys2Proof/Machine/Ops.lean ====
section
/-! DEFINITION. The named operations on registers, memory and pending events, and the ways a run ends
at an exception or an event. -/

namespace Sys2Proof.Machine

/-! ## Registers and fields -/

/-- Write the program counter (10_state.md R14). -/
def State.setPc (s : State) (v : Word64) : State := { s with pc := v }

/-- Write the monitor hardware (10_state.md R21). -/
def State.setMonitor (s : State) (m : Monitor) : State := { s with monitor := m }

/-- Write the run state (10_state.md R22). -/
def State.setRun (s : State) (r : Run) : State := { s with run := r }

/-- Write the set of pending events (10_state.md R23). -/
def State.setPending (s : State) (p : Pending) : State := { s with pending := p }

/-- Write memory (20_memory.md R37). -/
def State.setMem (s : State) (m : Memory) : State := { s with mem := m }

/-- Write IA32_MISC_ENABLE[18] (10_state.md R18). -/
def State.setMiscEnable (s : State) (b : Bool) : State := { s with miscEnable := b }

/-- Write the turns to come (10_state.md R10). -/
def State.setAgenda (s : State) (l : List Turn) : State := { s with agenda := l }

/-- Write CPUID's four output registers (40_enumeration_enabling.md R59). -/
def State.setCpuid (s : State) (a b : Word32) (c : Word64) (d : Word32) : State :=
  { s with eax := a, ebx := b, rcx := c, edx := d }

/-- The free values of the next draw (assumption 31). -/
def State.draw (s : State) : Draw := Config.draw s.draws

/-- One draw is used up. -/
def State.nextDraw (s : State) : State := { s with draws := s.draws + 1 }

/-- `ADDR_WIDTH` in bits (00_scope.md R5). -/
def State.width (s : State) : Nat := s.cfg.addrWidth.bits

/-- `pc + n` modulo 2^`ADDR_WIDTH` (10_state.md R14, D4). -/
def State.pcPlus (s : State) (n : Nat) : Word64 :=
  BitVec.ofNat 64 ((s.pc.toNat + n) % 2 ^ s.width)

/-- `pc <- pc + n` (10_state.md R14). -/
def State.advance (s : State) (n : Nat) : State := s.setPc (s.pcPlus n)

/-- The processor waits in the optimized state (10_state.md R22). -/
def State.waiting (s : State) : Bool :=
  match s.run with
  | .executing => false
  | .optimized _ _ => true

/-! ## Memory (20_memory.md R37) -/

/-- The byte at an address, none where nothing has been written. -/
def Memory.read : Memory → Nat → Option Byte
  | [], _ => none
  | (a, b) :: rest, x => if a = x then some b else Memory.read rest x

/-- Write one byte, keeping the addresses strictly rising. -/
def Memory.writeByte : Memory → Nat → Byte → Memory
  | [], x, v => [(x, v)]
  | (a, b) :: rest, x, v =>
    if x < a then (x, v) :: (a, b) :: rest
    else if x = a then (a, v) :: rest
    else (a, b) :: Memory.writeByte rest x v

/-- `MemWrite`: write bytes at ascending addresses (00_scope.md R9). -/
def Memory.writeBytes : Memory → Nat → List Byte → Memory
  | m, _, [] => m
  | m, x, v :: vs => Memory.writeBytes (Memory.writeByte m x v) (x + 1) vs

/-- The canonical form: addresses strictly rising. -/
def Memory.wf : Memory → Bool
  | [] => true
  | [_] => true
  | (a, _) :: (b, w) :: rest => decide (a < b) && Memory.wf ((b, w) :: rest)

/-! ## Pending events (10_state.md R23) -/

/-- An event of this kind is pending. -/
def Pending.has (p : Pending) : EventKind → Bool
  | .nmi => p.nmi
  | .smi => p.smi
  | .extInt => p.extInt
  | .machineCheck => p.machineCheck
  | .debug => p.debug
  | .binit => p.binit
  | .init => p.init
  | .reset => p.reset
  | .implDependent => p.implDependent

/-- Make an event of this kind pending (`true`) or remove it (`false`). -/
def Pending.set (p : Pending) (b : Bool) : EventKind → Pending
  | .nmi => { p with nmi := b }
  | .smi => { p with smi := b }
  | .extInt => { p with extInt := b }
  | .machineCheck => { p with machineCheck := b }
  | .debug => { p with debug := b }
  | .binit => { p with binit := b }
  | .init => { p with init := b }
  | .reset => { p with reset := b }
  | .implDependent => { p with implDependent := b }

/-- The nine kinds of event (10_state.md R23). -/
def allEventKinds : List EventKind :=
  [.nmi, .smi, .extInt, .machineCheck, .debug, .binit, .init, .reset, .implDependent]

/-! ## Ending a run at an exception or an event

The source describes neither the entry to a handler nor a return from one (60_exceptions.md R98): no
saved register, vector or frame. Each operation below is therefore the outcome of decisions D11 and
D26, with the state that a delivery would start from. -/

/-- `raise #UD`: the state is unchanged, its pc that of the faulting instruction (R90, R94, D23). -/
def raiseInvalidOpcode (s : State) : Fault := .invalidOpcode s

/-- `raise #GP(0)`: as `raiseInvalidOpcode`; error code 0, none in real-address mode (R91, C7). -/
def raiseGeneralProtection (s : State) : Fault :=
  .generalProtection (if s.mode = .real then none else some 0) s

/-- `Event(kind)`: delivery removes the event from `pending`; the saved instruction pointer is pc
(60_exceptions.md R97, R98, 10_state.md R23). -/
def deliverEvent (k : EventKind) (s : State) : Fault := .event k (s.setPending (s.pending.set false k))

end Sys2Proof.Machine
end

