-- ==== Sys2Proof/Machine/Operands.lean ====
section
/-! DEFINITION. The implicit operands of the three instructions (30_encoding.md R41; 41_mwait.md R67,
R68; 42_monitor_hlt.md R80; 40_enumeration_enabling.md R59). -/

namespace Sys2Proof.Machine

/-- ECX: the low 32 bits of RCX (10_state.md R12). -/
def State.ecx (s : State) : Word32 := s.rcx.setWidth 32

/-- MWAIT's extensions register, as 64 bits: RCX in 64-bit mode, ECX zero-extended in every other
mode (41_mwait.md R62, R75). -/
def State.ext (s : State) : Word64 :=
  if s.mode = .long64 then s.rcx else s.ecx.setWidth 64

/-- Extension bit 0: treat interrupts as break events even if masked (41_mwait.md R67). -/
def extMaskedBreaks (e : Word64) : Bool := e.getLsbD 0

/-- Extension bit 2: the execution is monitorless (41_mwait.md R63, R67). -/
def extMonitorless (e : Word64) : Bool := e.getLsbD 2

/-- A reserved extension bit is set: bit 1, or one of bits 63:3 (of the zero-extended ECX these are
bits 31:3) (41_mwait.md R62 G1, R67). -/
def extReserved (e : Word64) : Bool := e >>> 3 != 0 || e.getLsbD 1

/-- The state a hint requests: `t = EAX[7:4]`, C0 for 15 and C(t+1) for 0 to 14, sub-state
`EAX[3:0]` (41_mwait.md R68). -/
def requestedCState (hint : Word32) : CState where
  number := if hint.extractLsb' 4 4 = 15#4 then 0 else (hint.extractLsb' 4 4).toNat + 1
  sub := (hint.extractLsb' 0 4).toNat

/-- The address MONITOR is given: EAX, in the flat memory (42_monitor_hlt.md R80, D13). -/
def State.monitorAddress (s : State) : Nat := s.eax.toNat

/-- CPUID's leaf, in EAX (40_enumeration_enabling.md R59). -/
def State.cpuidLeaf (s : State) : Word32 := s.eax

/-- CPUID's sub-leaf, in ECX (40_enumeration_enabling.md R59). -/
def State.cpuidSubleaf (s : State) : Word32 := s.ecx

end Sys2Proof.Machine
end

