-- ==== Sys2Proof/Machine/Enumeration.lean ====
section
/-! DEFINITION. Enumeration and enabling: the five CPUID bits as they read now (10_state.md R19,
40_enumeration_enabling.md R50 to R54, R58), the discovery procedures (R56) and system software's
write of IA32_MISC_ENABLE[18] (R58). -/

namespace Sys2Proof.Machine

/-- `m` = CPUID.01H:ECX.MONITOR[bit 3] (R50). -/
def State.bitMonitor (s : State) : Bool := s.cfg.monitorHw && s.miscEnable

/-- `w` = CPUID.(EAX=07H, ECX=01H):EDX.MWAIT[bit 23] (R54). -/
def State.bitMwait (s : State) : Bool := s.cfg.mwaitHw && s.miscEnable

/-- CPUID leaf 05H is supported: `m = 1` or `w = 1` (R51). -/
def State.leaf05 (s : State) : Bool := s.bitMonitor || s.bitMwait

/-- `l` = CPUID.05H:ECX.MONITORLESS_MWAIT[bit 3]; read only where leaf 05H is supported (R53). -/
def State.bitMonitorless (s : State) : Bool := s.cfg.monitorless

/-- `i` = CPUID.05H:ECX[bit 1]; read only where leaf 05H is supported (R52). -/
def State.bitIbe (s : State) : Bool := s.cfg.ibe

/-- `e` = CPUID.05H:ECX[bit 0]; read only where leaf 05H is supported (R52). -/
def State.bitEmx (s : State) : Bool := s.cfg.emx

/-- Discovery by software that wants MONITOR and MWAIT together (R56). -/
def State.offersMonitoredPair (s : State) : Bool := s.bitMonitor

/-- Discovery by software that wants monitorless MWAIT: `w` (or `m`, R54 item 1), then `l` (R56). -/
def State.offersMonitorless (s : State) : Bool := s.leaf05 && s.bitMonitorless

/-- The monitor hardware after bit 18 is cleared: unspecified, a draw among its states; an armed range
has the configuration's size (D19, 20_memory.md R31). -/
def disabledMonitor (d : Draw) (s : State) : Monitor :=
  match d.disabled with
  | .idle => .idle
  | .triggered => .triggered
  | .armed => if 0 < s.cfg.rangeSize then .armed ⟨d.disabledBase, s.cfg.rangeSize⟩ else .idle

/-- System software writes IA32_MISC_ENABLE[18] (R58): the CPUID bits follow by their definitions;
the monitor becomes unspecified when the bit is cleared (D19). -/
def writeMiscEnable (d : Draw) (b : Bool) (s : State) : State :=
  if b then (s.setMiscEnable true).nextDraw
  else ((s.setMiscEnable false).setMonitor (disabledMonitor d s)).nextDraw

end Sys2Proof.Machine
end

