-- ==== Sys2Proof/Machine/Monitor.lean ====
section
/-! DEFINITION. The monitor hardware and MONITOR (20_memory.md R31 to R34, 42_monitor_hlt.md R80,
R81). -/

namespace Sys2Proof.Machine

/-- The address is in the range. -/
def Range.contains (r : Range) (a : Nat) : Bool := decide (r.base ≤ a ∧ a < r.base + r.size)

/-- `{a .. a+n-1} ∩ range ≠ ∅` (20_memory.md R32). -/
def Range.overlaps (r : Range) (a n : Nat) : Bool :=
  decide (0 < n ∧ 0 < r.size ∧ a < r.base + r.size ∧ r.base < a + n)

/-- Some run of `size` consecutive byte addresses that contains `a`: the free value says how far below
`a` it starts (20_memory.md R31, D15). -/
def drawnRange (d : Draw) (size a : Nat) : Range where
  base := a - d.placement % min size (a + 1)
  size := size

/-- `monitor <- choose { Armed(range), Idle }` (42_monitor_hlt.md R80, D27). A configuration whose
ranges have no byte has no range to arm. -/
def armedMonitor (d : Draw) (s : State) : Monitor :=
  if d.arm && decide (0 < s.cfg.rangeSize) then
    .armed (drawnRange d s.cfg.rangeSize s.monitorAddress)
  else .idle

/-- A monitor that a store by `g` of `n` bytes at `a` may find armed: any overlap triggers it, but a
non-processor agent's store during a wait draws (20_memory.md R32, R33, D16). -/
def storeMonitor (d : Draw) (waiting : Bool) (g : Agent) (a n : Nat) : Monitor → Monitor
  | .idle => .idle
  | .triggered => .triggered
  | .armed r =>
    if r.overlaps a n then
      if waiting && g == .nonProcessor then
        if d.storeTriggers then .triggered else .armed r
      else .triggered
    else .armed r

/-- A store by an agent: memory takes the bytes, the monitor watches (20_memory.md R32). -/
def agentStore (d : Draw) (g : Agent) (a : Nat) (bs : List Byte) (s : State) : State :=
  ((s.setMem (s.mem.writeBytes a bs)).setMonitor
    (storeMonitor d s.waiting g a bs.length s.monitor)).nextDraw

/-- MONITOR's fault checks, only those the chapter yields: #UD while bit 18 is 0, #UD while `m` reads
0 (42_monitor_hlt.md R81; assumption 25 says which others are left out). -/
def monitorInvalid (s : State) : Bool := !s.miscEnable || !s.bitMonitor

/-- The state after a MONITOR that passes its checks, given its free values (42_monitor_hlt.md R80). -/
def monitorResult (d : Draw) (s : State) : State :=
  ((s.setMonitor (armedMonitor d s)).advance 3).nextDraw

/-- MONITOR (42_monitor_hlt.md R80, R81). -/
def execMonitor (s : State) : Host.Outcome State Fault Refusal :=
  if monitorInvalid s then .fault (raiseInvalidOpcode s) else .next (monitorResult s.draw s)

end Sys2Proof.Machine
end

