-- ==== Sys2Proof/Machine/Agents.lean ====
section
/-! DEFINITION. The turns of the agents other than the instruction stream: stores, events, and system
software's write of IA32_MISC_ENABLE[18] (10_state.md R10). -/

namespace Sys2Proof.Machine

/-- An agent's store (20_memory.md R32). The waiting processor itself executes no store (10_state.md R22).

DESIGN CHOICE (assumption 46): a store is seen by memory and by the monitor in the turn that makes it.
The spec does not say that MWAIT drains stores (20_memory.md R39, N14), so on hardware a store this
processor made before MWAIT may become visible only while it waits; here that order is refused as well,
by the same name. -/
def storeTurn (g : Agent) (a : Nat) (bs : List Byte) (s : State) :
    Host.Outcome State Fault Refusal :=
  if s.waiting && g == .thisProcessor then .refused .ownStoreWhileWaiting
  else .next (agentStore s.draw g a bs s)

/-- The platform raises an event (10_state.md R23). -/
def raiseTurn (k : EventKind) (s : State) : Host.Outcome State Fault Refusal :=
  .next (s.setPending (s.pending.set true k))

/-- System software writes bit 18, only while the processor executes
(40_enumeration_enabling.md R58, D19). -/
def miscEnableTurn (b : Bool) (s : State) : Host.Outcome State Fault Refusal :=
  if s.waiting then .refused .miscEnableWhileWaiting else .next (writeMiscEnable s.draw b s)

end Sys2Proof.Machine
end

