-- ==== Sys2Proof/Machine/Cpuid.lean ====
section
/-! DEFINITION. CPUID, as far as the chapter uses it (40_enumeration_enabling.md R59). -/

namespace Sys2Proof.Machine

/-- A register value with one bit replaced. -/
def putBit (w : Word32) (i : Nat) (b : Bool) : Word32 :=
  if b then w ||| (1#32 <<< i) else w &&& ~~~(1#32 <<< i)

/-- CPUID's ECX output: bit 3 of leaf 01H; bits 0, 1 and 3 of leaf 05H where it is supported; every
other bit is the free value (R59, D12). -/
def cpuidEcx (d : Draw) (s : State) : Word32 :=
  if s.cpuidLeaf = 0x01#32 then putBit d.ecx 3 s.bitMonitor
  else if s.cpuidLeaf = 0x05#32 && s.leaf05 then
    putBit (putBit (putBit d.ecx 0 s.bitEmx) 1 s.bitIbe) 3 s.bitMonitorless
  else d.ecx

/-- CPUID's EDX output: bit 23 of leaf 07H, sub-leaf 01H; every other bit is the free value (R59). -/
def cpuidEdx (d : Draw) (s : State) : Word32 :=
  if s.cpuidLeaf = 0x07#32 && s.cpuidSubleaf = 0x01#32 then putBit d.edx 23 s.bitMwait
  else d.edx

/-- The state after CPUID, given its free values. Bits 63:32 of RCX are free as well: the source does
not say what becomes of them (assumption 27). -/
def cpuidResult (d : Draw) (s : State) : State :=
  ((s.setCpuid d.eax d.ebx (d.rcxHigh ++ cpuidEcx d s) (cpuidEdx d s)).advance 2).nextDraw

/-- CPUID (R59): no exception and no privilege condition is in the source. -/
def execCpuid (s : State) : Host.Outcome State Fault Refusal := .next (cpuidResult s.draw s)

end Sys2Proof.Machine
end

