-- ==== Sys2Proof/Machine/Flags.lean ====
section
/-! DEFINITION. The one flag of the source, EFLAGS.IF (10_state.md R15), and what it masks
(60_exceptions.md R96). No instruction in scope computes or writes a flag (41_mwait.md R74, R79). -/

namespace Sys2Proof.Machine

/-- `IntDeliverable(s)`: a pending external interrupt "would be delivered to software". The spec's
choice for a stand-alone model is IF = 1 (D18). -/
def State.intDeliverable (s : State) : Bool := s.intFlag

/-- The event is masked. The one mask the source names is that of external interrupts
(60_exceptions.md R95, R96). DESIGN CHOICE (assumption 43): whether and how NMI and SMI (R96), and
the debug exception, the machine check, BINIT#, INIT# and RESET# (R95), can be masked is not in the
source; here they never are. -/
def State.masked (s : State) : EventKind → Bool
  | .extInt => !s.intDeliverable
  | _ => false

end Sys2Proof.Machine
end

