-- ==== Sys2Proof/Machine/Mwait.lean ====
section
/-! DEFINITION. MWAIT: the fault checks, the issue transition, the break predicate and the wake
transition (41_mwait.md R61 to R75). -/

namespace Sys2Proof.Machine

/-! ## Fault checks -/

/-- A #UD condition holds: U1, U4, U2 or U3 (41_mwait.md R61). -/
def mwaitInvalid (s : State) : Bool :=
  s.mode == .v8086 || !s.miscEnable || (!s.bitMonitor && !s.bitMwait)
    || (s.mode != .real && s.cpl != 0)

/-- G1: a reserved extension bit is set (41_mwait.md R62). -/
def gpReserved (s : State) : Bool := extReserved s.ext

/-- G2: bit 0 set without `i`. It reads leaf 05H, so it is well defined only where the leaf is
supported (41_mwait.md R62, D12). -/
def gpMaskedBreaks (s : State) : Bool := s.leaf05 && extMaskedBreaks s.ext && !s.bitIbe

/-- G3: bit 2 set without `l`; well defined as G2 (41_mwait.md R62, D12). -/
def gpMonitorless (s : State) : Bool := s.leaf05 && extMonitorless s.ext && !s.bitMonitorless

/-- G4: bit 2 clear without `m` (41_mwait.md R62). -/
def gpMonitored (s : State) : Bool := !extMonitorless s.ext && !s.bitMonitor

/-- A #GP condition holds: G1, G2, G3 or G4 (41_mwait.md R62). -/
def mwaitProtected (s : State) : Bool :=
  gpReserved s || gpMaskedBreaks s || gpMonitorless s || gpMonitored s

/-- Where a #UD condition holds, #GP may be reported in its place: under `either`, where a #GP
condition is well defined and the mode's list has one (60_exceptions.md R93, R76, D1). -/
def mwaitReportsGp (d : Draw) (s : State) : Bool :=
  s.cfg.faultPriority == .either && s.mode != .v8086 && mwaitProtected s && d.reportGp

/-- The exception MWAIT raises, if any: phase 1 before phase 2 (41_mwait.md R75, D1). -/
def mwaitFault (d : Draw) (s : State) : Option Fault :=
  if mwaitInvalid s then
    if mwaitReportsGp d s then some (raiseGeneralProtection s) else some (raiseInvalidOpcode s)
  else if mwaitProtected s then some (raiseGeneralProtection s)
  else none

/-! ## Operation -/

/-- The monitor after MWAIT completes: triggered by the monitored form; unchanged or triggered, a draw,
by the monitorless form (41_mwait.md R73, D2). -/
def completedMonitor (d : Draw) (e : Word64) (m : Monitor) : Monitor :=
  if extMonitorless e then (if d.trigger then .triggered else m) else .triggered

/-- `MWAIT_complete(ext)` (41_mwait.md R75). -/
def mwaitComplete (d : Draw) (e : Word64) (s : State) : State :=
  s.setMonitor (completedMonitor d e s.monitor)

/-- The monitor hardware is armed (10_state.md R21). -/
def State.monitorArmed (s : State) : Bool :=
  match s.monitor with
  | .idle => false
  | .armed _ => true
  | .triggered => false

/-- `can_wait`: the monitorless form always, the monitored form only while armed (41_mwait.md R64,
R65). -/
def mwaitCanWait (s : State) : Bool := extMonitorless s.ext || s.monitorArmed

/-- Phase 3 of the issue transition, given its free values: enter the optimized state or complete at
once; pc is advanced in both (41_mwait.md R66, R72, R75). -/
def mwaitIssue (d : Draw) (s : State) : State :=
  if mwaitCanWait s && d.enter then
    ((s.setRun (.optimized s.eax s.ext)).advance 3).nextDraw
  else ((mwaitComplete d s.ext s).advance 3).nextDraw

/-- MWAIT with given free values (41_mwait.md R75, `MWAIT_issue`). -/
def mwaitWith (d : Draw) (s : State) : Host.Outcome State Fault Refusal :=
  match mwaitFault d s with
  | some f => .fault f
  | none => .next (mwaitIssue d s)

/-- MWAIT (41_mwait.md R75). -/
def execMwait (s : State) : Host.Outcome State Fault Refusal := mwaitWith s.draw s

/-! ## Waiting and waking -/

/-- A store hit the armed range of a monitored wait (41_mwait.md R75, first disjunct of `Break`). -/
def storeBreaks (e : Word64) (s : State) : Bool :=
  !extMonitorless e && decide (s.monitor = .triggered)

/-- `ExtIntBreaks(s)` (41_mwait.md R70). -/
def extIntBreaks (e : Word64) (s : State) : Bool :=
  s.pending.extInt && (s.intDeliverable || extMaskedBreaks e)

/-- The named disjuncts of `Break`, under which the exit is guaranteed (41_mwait.md R69, R70, R75). -/
def namedBreak (e : Word64) (s : State) : Bool :=
  storeBreaks e s || s.pending.nmi || s.pending.smi || s.pending.debug || s.pending.machineCheck
    || s.pending.binit || s.pending.init || s.pending.reset || extIntBreaks e s

/-- `MWAIT_wake` (41_mwait.md R75): pc already holds the address after MWAIT (R72). -/
def mwaitWake (d : Draw) (e : Word64) (s : State) : State :=
  (mwaitComplete d e (s.setRun .executing)).nextDraw

/-- The waiting processor's turn, given its free values: a named break event wakes it; an
implementation-dependent event may, or it goes on waiting (41_mwait.md R69 to R71). -/
def waitTurn (d : Draw) (e : Word64) (s : State) : State :=
  if namedBreak e s || d.wake then mwaitWake d e s else s.nextDraw

end Sys2Proof.Machine
end

