-- ==== Sys2Proof/Machine/Dispatch.lean ====
section
/-! DEFINITION. The one match from an instruction to its meaning. -/

namespace Sys2Proof.Machine

def exec (i : Instr) (s : State) : Host.Outcome State Fault Refusal :=
  match i with
  | .mwait => Sys2Proof.Machine.execMwait s
  | .monitor => Sys2Proof.Machine.execMonitor s
  | .cpuid => Sys2Proof.Machine.execCpuid s

end Sys2Proof.Machine
end

