-- ==== Sys2Proof/Machine/Events.lean ====
section
/-! DEFINITION. The instruction boundary: which pending events may be delivered before the next
instruction, and which end the run there (60_exceptions.md R97, R98, D26). -/

namespace Sys2Proof.Machine

/-- The pending events that are not masked (41_mwait.md R72, 60_exceptions.md R96). -/
def State.deliverable (s : State) : List EventKind :=
  allEventKinds.filter fun k => s.pending.has k && !s.masked k

/-- An event after which the run leaves the scope of the spec (60_exceptions.md R97, D26; the debug
exception by vector B10). -/
def leavesScope : EventKind → Bool
  | .machineCheck => true
  | .debug => true
  | .binit => true
  | .init => true
  | .reset => true
  | .nmi => false
  | .smi => false
  | .extInt => false
  | .implDependent => false

/-- The element of a non-empty list that a free number picks (X16: any of them). -/
def pick (n : Nat) (k : EventKind) (ks : List EventKind) : EventKind :=
  (k :: ks).getD (n % (ks.length + 1)) k

/-- The event delivered at this boundary, if any: one must be where an event that leaves the scope is
deliverable, one may be where another is (60_exceptions.md R97, D26, I12). -/
def boundaryEvent (d : Draw) (s : State) : Option EventKind :=
  match s.deliverable with
  | [] => none
  | k :: ks => if (k :: ks).any leavesScope || d.deliver then some (pick d.which k ks) else none

/-- The state in which the next instruction is fetched when nothing is delivered: a draw has been used
where there was something to choose. -/
def afterBoundary (s : State) : State := if s.deliverable.isEmpty then s else s.nextDraw

end Sys2Proof.Machine
end

