-- ==== Sys2Proof/Machine/Fetch.lean ====
section
/-! DEFINITION. Fetching an instruction from memory at pc (30_encoding.md R40, R42, R45; D4, D5, D20). -/

namespace Sys2Proof.Machine

/-- Why the bytes fetched are no more than they are. -/
inductive FetchEnd where
  /-- As many bytes as the longest instruction has were fetched. -/
  | complete
  /-- The next byte would wrap the top of the address space (D4). -/
  | wraps
  /-- Nothing has written the byte at this address (assumption 6). -/
  | unwritten (addr : Nat)
  deriving DecidableEq, Repr

/-- At most `n` bytes at ascending addresses from `a`, below `limit`. -/
def fetchBytes (m : Memory) (limit : Nat) : Nat → Nat → List Byte × FetchEnd
  | 0, _ => ([], .complete)
  | n + 1, a =>
    if limit ≤ a then ([], .wraps)
    else match m.read a with
      | none => ([], .unwritten a)
      | some b => (b :: (fetchBytes m limit n (a + 1)).1, (fetchBytes m limit n (a + 1)).2)

/-- The bytes at pc. -/
def State.bytesAtPc (s : State) : List Byte × FetchEnd :=
  fetchBytes s.mem (2 ^ s.width) maxLength s.pc.toNat

/-- The instruction at pc. Bytes beyond the instruction are not needed: only where the decoder asks
for a byte that could not be fetched does the fetch stop. -/
def fetch (s : State) : Host.Outcome Instr Fault Refusal :=
  match decode s.bytesAtPc.1 with
  | .ok (i, _) => .next i
  | .error .truncated =>
    match s.bytesAtPc.2 with
    | .complete => .refused (.noMeaning .truncated)
    | .wraps => .refused .fetchWraps
    | .unwritten a => .fault (.unwrittenByte a s)
  | .error e => .refused (.noMeaning e)

end Sys2Proof.Machine
end

