-- ==== Sys2Proof/Machine/Turns.lean ====
section
/-! DEFINITION. The turn of each agent, the logical processor's among them (10_state.md R10, R22). -/

namespace Sys2Proof.Machine

/-- The executing processor fetches and executes the instruction at pc. -/
def instructionStep (s : State) : Host.Outcome State Fault Refusal :=
  match fetch s with
  | .next i => exec i s
  | .fault f => .fault f
  | .refused r => .refused r

/-- The logical processor's turn: while it waits it executes nothing (10_state.md R22); at an
instruction boundary a pending event may be delivered (60_exceptions.md R97), else the instruction
at pc is executed.

DESIGN CHOICE (assumption 47): the priority between MWAIT's #UD or #GP and a pending event is not in the
source (R93). The boundary comes first: a pending debug exception, machine check, BINIT#, INIT# or
RESET# always takes the place of the fault, and for any other deliverable event a draw decides. -/
def processorStep (s : State) : Host.Outcome State Fault Refusal :=
  match s.run with
  | .optimized _ e => .next (waitTurn s.draw e s)
  | .executing =>
    match boundaryEvent s.draw s with
    | some k => .fault (deliverEvent k s)
    | none => instructionStep (afterBoundary s)

/-- One turn of the agenda. -/
def turnStep (t : Turn) (s : State) : Host.Outcome State Fault Refusal :=
  match t with
  | .processor => processorStep s
  | .store g a bs => storeTurn g a bs s
  | .raise k => raiseTurn k s
  | .writeMiscEnable b => miscEnableTurn b s

end Sys2Proof.Machine
end

