-- ==== Sys2Proof/Machine/Step.lean ====
section
/-! DEFINITION. One step of the machine: the turn of the agent that State says moves next
(10_state.md R10). -/

namespace Sys2Proof.Machine

/-- One step: the first turn of the agenda, or the processor's where the agenda is empty. -/
def step (s : State) : Host.Outcome State Fault Refusal :=
  match s.agenda with
  | [] => processorStep s
  | t :: rest => turnStep t (s.setAgenda rest)

/-- The state with the instruction of a table word stored at pc, where the next step fetches. -/
def State.withFetchWord (s : State) (nbits w : Nat) : State :=
  s.setMem (s.mem.writeBytes s.pc.toNat (tableBytes nbits w))

end Sys2Proof.Machine
end

