-- ==== Sys2Proof/Machine/Virtualization.lean ====
section
/-! DEFINITION. The virtualization recipe (60_exceptions.md R99): what a VMM presents to a guest and how
it answers the guest's MONITOR and MWAIT where the parameter `VmmIntercept` has them leave the guest.
Interception is no step of the machine (D22, assumption 32): a guest runs by the plain rules with the
bits the VMM presents. -/

namespace Sys2Proof.Machine

/-- R99 item 1: the VMM virtualizes CPUID so that the guest sees `w = 1, m = 0, l = 1`; `v` says which
of its executions the VMM intercepts. -/
def guestConfig (c : Config) (v : VmmIntercept) : Config :=
  { c with monitorHw := false, mwaitHw := true, monitorless := true, vmmIntercept := some v }

/-- The execution leaves the guest to the VMM: the parameter `VmmIntercept`, absent outside a guest
(00_scope.md R5, R99, I13). -/
def State.intercepted (s : State) (i : Instr) : Bool :=
  match s.cfg.vmmIntercept with
  | none => false
  | some v =>
    match i with
    | .monitor => v.monitor
    | .mwait => v.mwait
    | .cpuid => false

/-- What the VMM does with an intercepted execution (R99 items 2 and 3). DESIGN CHOICE (assumption 44):
the source says neither whether interception takes priority over the #UD and #GP checks nor how the
VMM virtualizes the wait; here it answers before any check, and virtualizes by MWAIT's own issue
transition. -/
def vmmAnswer (i : Instr) (s : State) : Host.Outcome State Fault Refusal :=
  match i with
  | .monitor => .fault (raiseInvalidOpcode s)
  | .mwait =>
    if extMonitorless s.ext then .next (mwaitIssue s.draw s) else .fault (raiseGeneralProtection s)
  | .cpuid => execCpuid s

/-- What a guest's execution gives: the VMM's answer where it is intercepted, else the plain rule. -/
def guestExec (i : Instr) (s : State) : Host.Outcome State Fault Refusal :=
  if s.intercepted i then vmmAnswer i s else exec i s

end Sys2Proof.Machine
end

