-- ==== Sys2Proof/Safety.lean ====
section
/-! DEFINITION. The terms claims are stated in: MWAIT's fault conditions as the exception lists word
them, the form of a state, and the invariant that every step keeps. -/

namespace Sys2Proof.Machine

/-! ## MWAIT's fault conditions, in the source's words -/

/-- One of U1 to U4 holds (41_mwait.md R61). -/
def State.UdCondition (s : State) : Prop :=
  s.mode = .v8086 ∨ (s.bitMonitor = false ∧ s.bitMwait = false)
    ∨ (s.mode ≠ .real ∧ s.cpl ≠ 0) ∨ s.miscEnable = false

/-- G1: a reserved bit is set, of RCX in 64-bit mode and of ECX elsewhere (41_mwait.md R62). Bits 2:0
of ECX and RCX are the same bits (10_state.md R12). -/
def State.GpReservedBits (s : State) : Prop :=
  (s.mode = .long64 ∧ s.rcx.extractLsb' 3 61 ≠ 0) ∨ (s.mode ≠ .long64 ∧ s.ecx.extractLsb' 3 29 ≠ 0)
    ∨ s.ecx.getLsbD 1 = true

/-- One of G1 to G4 holds (41_mwait.md R62). -/
def State.GpCondition (s : State) : Prop :=
  s.GpReservedBits ∨ (s.ecx.getLsbD 0 = true ∧ s.bitIbe = false)
    ∨ (s.ecx.getLsbD 2 = true ∧ s.bitMonitorless = false)
    ∨ (s.ecx.getLsbD 2 = false ∧ s.bitMonitor = false)

/-- One of G1 to G4 holds and is well defined: G2 and G3 read leaf 05H and count only where it is
supported, G1 and G4 read nothing of it (41_mwait.md R62, 92_eei_decisions.md D12). -/
def State.GpWellDefined (s : State) : Prop :=
  s.GpReservedBits
    ∨ (s.leaf05 = true ∧ ((s.ecx.getLsbD 0 = true ∧ s.bitIbe = false)
        ∨ (s.ecx.getLsbD 2 = true ∧ s.bitMonitorless = false)))
    ∨ (s.ecx.getLsbD 2 = false ∧ s.bitMonitor = false)

/-- MWAIT's checks pass: no condition of R61 and none of R62 holds (41_mwait.md R75). -/
def State.MwaitPasses (s : State) : Prop := ¬ s.UdCondition ∧ ¬ s.GpCondition

/-- A #UD condition is reported as #UD for certain: under the default priority, in virtual-8086 mode
(whose list has no #GP), or where no well-defined #GP condition holds (60_exceptions.md R93, D1, D12). -/
def State.ReportsUd (s : State) : Prop :=
  s.cfg.faultPriority = .udFirst ∨ s.mode = .v8086 ∨ ¬ s.GpWellDefined

/-- MWAIT's error code: 0, none where the source writes none (60_exceptions.md R91). -/
def State.gpCode (s : State) : Option Nat := if s.mode = .real then none else some 0

/-- The extensions MWAIT accepts, and the CPUID bits each needs (41_mwait.md R62, the table of ECX
values that pass). -/
def State.ExtensionsPass (s : State) : Prop :=
  (s.ext = 0 ∧ s.bitMonitor = true) ∨ (s.ext = 1 ∧ s.bitMonitor = true ∧ s.bitIbe = true)
    ∨ (s.ext = 4 ∧ s.bitMonitorless = true)
    ∨ (s.ext = 5 ∧ s.bitMonitorless = true ∧ s.bitIbe = true)

/-- A break event that the source names is present for a wait with extensions `e`: a store hit the
armed range of a monitored wait, a listed event is pending, or an external interrupt is pending that
would be delivered or that extension bit 0 makes a break event (41_mwait.md R69, R70, R75). -/
def State.BreakEvent (s : State) (e : Word64) : Prop :=
  (e.getLsbD 2 = false ∧ s.monitor = .triggered)
    ∨ s.pending.nmi = true ∨ s.pending.smi = true ∨ s.pending.debug = true
    ∨ s.pending.machineCheck = true ∨ s.pending.binit = true ∨ s.pending.init = true
    ∨ s.pending.reset = true
    ∨ (s.pending.extInt = true ∧ (s.intDeliverable = true ∨ e.getLsbD 0 = true))

/-- Some stored byte lies in the range: `{a .. a+n-1} ∩ range ≠ ∅` (20_memory.md R32). -/
def Range.Hit (r : Range) (a n : Nat) : Prop :=
  ∃ x, r.base ≤ x ∧ x < r.base + r.size ∧ a ≤ x ∧ x < a + n

/-! ## The form of a state -/

/-- An armed range has MONITOR_RANGE_SIZE bytes and at least one (20_memory.md R31). -/
def State.rangeFits (s : State) : Bool :=
  match s.monitor with
  | .idle => true
  | .armed r => decide (r.size = s.cfg.rangeSize) && decide (0 < r.size)
  | .triggered => true

/-- A waiting processor is in a state that MWAIT's checks let it enter, and a monitored wait has had a
monitor armed (41_mwait.md R61, R62, R64; D19). -/
def State.waitFits (s : State) : Bool :=
  match s.run with
  | .executing => true
  | .optimized _ e =>
    s.miscEnable && s.mode != .v8086 && (s.mode == .real || s.cpl == 0) && s.leaf05
      && !extReserved e && (!extMaskedBreaks e || s.bitIbe)
      && (if extMonitorless e then s.bitMonitorless else s.bitMonitor && s.monitor != .idle)

/-- The invariant: memory in its canonical form, pc within ADDR_WIDTH, the monitor and the wait as
above. -/
structure State.Inv (s : State) : Prop where
  mem : s.mem.wf = true
  pc : s.pc.toNat < 2 ^ s.width
  range : s.rangeFits = true
  wait : s.waitFits = true

/-! ## What a program sees in memory -/

/-- The bytes of an instruction stand at pc, below the top of the address space
(30_encoding.md R40, R42, D4). -/
def State.HoldsAtPc (s : State) (i : Instr) : Prop :=
  s.pc.toNat + i.length ≤ 2 ^ s.width ∧
    ∀ k, k < i.length → s.mem.read (s.pc.toNat + k) = (encode i)[k]?

/-! ## Who moves next -/

/-- The next turn is the logical processor's: no turn is listed, or its own is the first
(10_state.md R10, assumption 30). -/
def State.ProcessorMoves (s : State) : Prop :=
  s.agenda = [] ∨ ∃ rest, s.agenda = .processor :: rest

/-! ## Agreement between two states -/

/-- Every general register holds the same value. -/
def SameRegs (s t : State) : Prop :=
  t.eax = s.eax ∧ t.ebx = s.ebx ∧ t.rcx = s.rcx ∧ t.edx = s.edx

/-- The flag, the privilege level, the mode, IA32_MISC_ENABLE[18] and the configuration are the same. -/
def SameSystem (s t : State) : Prop :=
  t.intFlag = s.intFlag ∧ t.cpl = s.cpl ∧ t.mode = s.mode ∧ t.miscEnable = s.miscEnable
    ∧ t.cfg = s.cfg

/-- Every byte of memory reads the same. -/
def SameMem (s t : State) : Prop := ∀ a, t.mem.read a = s.mem.read a

end Sys2Proof.Machine
end

