-- ==== Sys2Proof/Certificates/Slice0/Obligations.lean ====
section
/-! DEFINITION. The statements for the provers. Each docstring names the rule of spec/ it formalises; a
free value is always quantified over, or stands behind `exec` and `step`, where nothing is known of it. -/

open Sys2Proof Sys2Proof.Machine

/-! ## Reset and the invariant -/

/-- The reset state has an idle monitor, executes, has bit 18 at its parameter and nothing in memory,
for every configuration. Idle and executing are the spec's decision D7; the empty memory is the model's
choice (assumption 6). -/
def Obligations.ResetLeavesMonitorIdleAndExecuting : Prop :=
  ∀ c : Config,
    (State.resetWith c).monitor = .idle ∧ (State.resetWith c).run = .executing
      ∧ (State.resetWith c).miscEnable = c.miscEnableReset ∧ (State.resetWith c).cfg = c
      ∧ ∀ a, (State.resetWith c).mem.read a = none

/-- The reset state meets the invariant, for every configuration. -/
def Obligations.ResetMeetsTheInvariant : Prop :=
  State.reset.Inv ∧ ∀ c : Config, (State.resetWith c).Inv

/-- Every step keeps the invariant: memory canonical, pc within ADDR_WIDTH, an armed range of the
configured size, and a waiting processor only in a state MWAIT's checks let it enter, with bit 18
still set and the monitor of a monitored wait not idle. -/
def Obligations.EveryStepKeepsTheInvariant : Prop :=
  ∀ s t : State, s.Inv → step s = .next t → t.Inv

/-! ## Encoding and fetch -/

/-- The bytes written out from 30_encoding.md R40 and R47, and the table's words, decode to their
instructions. -/
def Obligations.WrittenWordsDecode : Prop :=
  decode [0x0F#8, 0x01#8, 0xC9#8] = .ok (.mwait, [])
    ∧ decode [0x0F#8, 0x01#8, 0xC8#8] = .ok (.monitor, [])
    ∧ decode [0x0F#8, 0xA2#8] = .ok (.cpuid, [])
    ∧ decodeTableWord 24 0x0F01C9 = some .mwait
    ∧ decodeTableWord 24 0x0F01C8 = some .monitor
    ∧ decodeTableWord 16 0x0FA2 = some .cpuid

/-- Decoding an encoded instruction gives it back, with the bytes after it. -/
def Obligations.EncodedInstructionsDecodeToThemselves : Prop :=
  ∀ (i : Instr) (rest : List Byte), i.wellFormed = true →
    decode (encode i ++ rest) = .ok (i, rest)

/-- The decoder accepts exactly the bytes of the table's rows and nothing else (30_encoding.md R45). -/
def Obligations.OnlyTheTableBytesDecode : Prop :=
  ∀ (bs : List Byte) (i : Instr) (rest : List Byte),
    decode bs = .ok (i, rest) ↔ bs = encode i ++ rest

/-- When the bytes at pc are those of an instruction, the executing processor's step is exec of it: on
an empty agenda or on a listed turn of the processor; where an event was pending and not delivered,
after the draw that decided so. -/
def Obligations.StepRunsTheDecodedInstruction : Prop :=
  ∀ (s : State) (i : Instr), i.wellFormed = true → s.run = .executing → s.HoldsAtPc i →
    (s.agenda = [] → s.deliverable = [] → step s = exec i s)
      ∧ (s.agenda = [] → s.deliverable ≠ [] → boundaryEvent s.draw s = none →
          step s = exec i s.nextDraw)
      ∧ (∀ rest, s.agenda = .processor :: rest → s.deliverable = [] →
          step s = exec i (s.setAgenda rest))
      ∧ (∀ rest, s.agenda = .processor :: rest → s.deliverable ≠ [] →
          boundaryEvent s.draw s = none → step s = exec i (s.setAgenda rest).nextDraw)

/-- Bytes that start no row of the table are refused by name: a first byte other than `0F` (every
prefix among them), and unknown second and third bytes (30_encoding.md R45, D20). The processor's turn
may be listed or not. -/
def Obligations.BytesOutsideTheTableAreRefused : Prop :=
  ∀ s : State, s.ProcessorMoves → s.run = .executing → s.deliverable = [] →
    (∀ b, s.pc.toNat < 2 ^ s.width → s.mem.read s.pc.toNat = some b → b ≠ 0x0F#8 →
        step s = .refused (.noMeaning (.notEscape b)))
      ∧ (∀ b, s.pc.toNat + 1 < 2 ^ s.width → s.mem.read s.pc.toNat = some 0x0F#8 →
          s.mem.read (s.pc.toNat + 1) = some b → b ≠ 0x01#8 → b ≠ 0xA2#8 →
          step s = .refused (.noMeaning (.unknownSecond b)))
      ∧ (∀ b, s.pc.toNat + 2 < 2 ^ s.width → s.mem.read s.pc.toNat = some 0x0F#8 →
          s.mem.read (s.pc.toNat + 1) = some 0x01#8 → s.mem.read (s.pc.toNat + 2) = some b →
          b ≠ 0xC8#8 → b ≠ 0xC9#8 → step s = .refused (.noMeaning (.unknownThird b)))

/-- An instruction whose bytes would wrap the top of the address space is refused (D4; for CPUID and
MONITOR assumption 9); a fetch of a byte that nothing has written, the first, second or third that
the decoder asks for, faults (the model's choice, assumption 6) and hands over the state found, with the
processor's turn removed where it was listed. -/
def Obligations.IncompleteFetchStopsByName : Prop :=
  ∀ s : State, s.ProcessorMoves → s.run = .executing → s.deliverable = [] →
    (s.pc.toNat + 1 = 2 ^ s.width → s.mem.read s.pc.toNat = some 0x0F#8 →
        step s = .refused .fetchWraps)
      ∧ (s.pc.toNat + 2 = 2 ^ s.width → s.mem.read s.pc.toNat = some 0x0F#8 →
          s.mem.read (s.pc.toNat + 1) = some 0x01#8 → step s = .refused .fetchWraps)
      ∧ (s.pc.toNat < 2 ^ s.width → s.mem.read s.pc.toNat = none →
          step s = .fault (.unwrittenByte s.pc.toNat (s.setAgenda s.agenda.tail)))
      ∧ (s.pc.toNat + 1 < 2 ^ s.width → s.mem.read s.pc.toNat = some 0x0F#8 →
          s.mem.read (s.pc.toNat + 1) = none →
          step s = .fault (.unwrittenByte (s.pc.toNat + 1) (s.setAgenda s.agenda.tail)))
      ∧ (s.pc.toNat + 2 < 2 ^ s.width → s.mem.read s.pc.toNat = some 0x0F#8 →
          s.mem.read (s.pc.toNat + 1) = some 0x01#8 → s.mem.read (s.pc.toNat + 2) = none →
          step s = .fault (.unwrittenByte (s.pc.toNat + 2) (s.setAgenda s.agenda.tail)))

/-! ## MWAIT: fault checks -/

/-- MWAIT raises #UD, changing no state, when one of U1 to U4 holds (41_mwait.md R61), wherever #UD is
reported for certain (60_exceptions.md R93). -/
def Obligations.MwaitInvalidOpcode : Prop :=
  ∀ s : State, s.UdCondition → s.ReportsUd → exec .mwait s = .fault (.invalidOpcode s)

/-- With no #UD condition, MWAIT raises #GP(0) (in real-address mode #GP with no error code), changing
no state, when one of G1 to G4 holds, and else it completes; and the only values of ECX (RCX) that pass
are 0, 1, 4 and 5, with the CPUID bits of the rule's table (41_mwait.md R62). The list of values is the spec's inference
from G1, and the missing error code in real-address mode its reading C7 (assumption 38). -/
def Obligations.MwaitGeneralProtection : Prop :=
  ∀ s : State, ¬ s.UdCondition →
    (s.GpCondition →
      exec .mwait s = .fault (.generalProtection (if s.mode = .real then none else some 0) s))
    ∧ (¬ s.GpCondition ↔ s.ExtensionsPass)
    ∧ ((∃ t, exec .mwait s = .next t) ↔ s.ExtensionsPass)

/-- Where a #UD condition holds MWAIT reports #UD, or, only under FAULT_PRIORITY = either, outside
virtual-8086 mode and where a #GP condition holds too and is well defined, #GP; and there both are
admitted (60_exceptions.md R93, D1). Without leaf 05H a #GP needs G1 or G4, and #UD is certain where
neither holds (D12). -/
def Obligations.FaultPriorityDecidesBetweenUdAndGp : Prop :=
  (∀ s : State, s.UdCondition →
    exec .mwait s = .fault (.invalidOpcode s)
      ∨ (s.cfg.faultPriority = .either ∧ s.mode ≠ .v8086 ∧ s.GpWellDefined
          ∧ exec .mwait s = .fault (.generalProtection s.gpCode s)))
    ∧ (∀ s : State, s.UdCondition → s.cfg.faultPriority = .either → s.mode ≠ .v8086 →
        s.GpWellDefined →
        (∃ d, mwaitWith d s = .fault (.invalidOpcode s))
          ∧ (∃ d, mwaitWith d s = .fault (.generalProtection s.gpCode s)))
    ∧ (∀ (s : State) (code : Option Nat), s.leaf05 = false →
        exec .mwait s = .fault (.generalProtection code s) →
        s.GpReservedBits ∨ (s.ecx.getLsbD 2 = false ∧ s.bitMonitor = false))
    ∧ (∀ s : State, s.leaf05 = false → ¬ s.GpReservedBits →
        ¬ (s.ecx.getLsbD 2 = false ∧ s.bitMonitor = false) →
        exec .mwait s = .fault (.invalidOpcode s))

/-- A faulting MWAIT changes nothing: the state it hands over is the state it found, and it faults only
where a condition of R61 or a well-defined one of R62 (D12) holds; it is never refused (60_exceptions.md R94). -/
def Obligations.FaultingMwaitChangesNothing : Prop :=
  ∀ s : State,
    (∀ f, exec .mwait s = .fault f →
      (f = .invalidOpcode s ∧ s.UdCondition) ∨ (f = .generalProtection s.gpCode s ∧ s.GpWellDefined))
    ∧ ∀ r, exec .mwait s ≠ .refused r

/-- In virtual-8086 mode MWAIT is not recognized, whatever the CPUID bits, the privilege level and the
fault priority (41_mwait.md R61 U1). -/
def Obligations.MwaitNotRecognizedInV8086 : Prop :=
  ∀ s : State, s.mode = .v8086 → exec .mwait s = .fault (.invalidOpcode s)

/-- Outside real-address mode MWAIT at a privilege level other than 0 is #UD; in real-address mode the
privilege level has no part in the outcome, be it a completion or a fault (60_exceptions.md R100,
41_mwait.md R76). That a #UD condition is reported as #UD is decision D1. -/
def Obligations.MwaitPrivilege : Prop :=
  (∀ s : State, s.mode ≠ .real → s.cpl ≠ 0 → s.ReportsUd →
      exec .mwait s = .fault (.invalidOpcode s))
    ∧ (∀ (s : State) (c : BitVec 2), s.mode = .real →
        (∀ t, exec .mwait s = .next t →
          exec .mwait { s with cpl := c } = .next { t with cpl := c })
        ∧ (exec .mwait s = .fault (.invalidOpcode s) →
          exec .mwait { s with cpl := c } = .fault (.invalidOpcode { s with cpl := c }))
        ∧ (∀ code, exec .mwait s = .fault (.generalProtection code s) →
          exec .mwait { s with cpl := c }
            = .fault (.generalProtection code { s with cpl := c })))

/-! ## MWAIT: operation -/

/-- Where MWAIT's checks pass it completes: pc moves to the next instruction, and it either enters the
optimized state with EAX and the extensions, the monitor as it was, or goes on and completes; it enters
only if monitorless or armed (41_mwait.md R63 to R66, R75). -/
def Obligations.MwaitCompletes : Prop :=
  ∀ s : State, s.MwaitPasses →
    ∃ t, exec .mwait s = .next t ∧ t.pc = s.pcPlus 3
      ∧ ((t.run = .optimized s.eax s.ext ∧ t.monitor = s.monitor
            ∧ (s.ecx.getLsbD 2 = true ∨ ∃ r, s.monitor = .armed r))
          ∨ (t.run = s.run
            ∧ (t.monitor = .triggered ∨ (s.ecx.getLsbD 2 = true ∧ t.monitor = s.monitor))))

/-- Monitored form: with the monitor not armed MWAIT does not enter the optimized state and execution
goes on at the next instruction; with it armed both runs exist, entering and not, and the monitor
stays armed during the wait (41_mwait.md R64). That an armed one may skip is R66 with decision D3, that
pc is taken modulo 2^ADDR_WIDTH decision D4 (assumptions 14 and 9). -/
def Obligations.MonitoredMwaitWaitsOnlyWhileArmed : Prop :=
  ∀ s : State, s.MwaitPasses → s.ecx.getLsbD 2 = false →
    ((∀ r, s.monitor ≠ .armed r) →
      ∃ t, exec .mwait s = .next t ∧ t.run = s.run
        ∧ t.pc.toNat = (s.pc.toNat + 3) % 2 ^ s.width)
    ∧ (∀ r, s.monitor = .armed r →
      exec .mwait s = mwaitWith s.draw s
      ∧ (∀ d : Draw, d.enter = true → ∃ t, mwaitWith d s = .next t
          ∧ t.run = .optimized s.eax s.ext ∧ t.monitor = .armed r
          ∧ t.pc.toNat = (s.pc.toNat + 3) % 2 ^ s.width)
      ∧ (∀ d : Draw, d.enter = false → ∃ t, mwaitWith d s = .next t
          ∧ t.run = s.run ∧ t.pc.toNat = (s.pc.toNat + 3) % 2 ^ s.width))

/-- Monitorless form: whatever the monitor is, MWAIT may enter the optimized state; and while it waits
no store is a guaranteed break event: with nothing pending it may go on waiting, or wake, whatever the
monitor has become (41_mwait.md R65). -/
def Obligations.MonitorlessMwaitMayWaitWhateverTheMonitor : Prop :=
  (∀ (s : State) (m : Monitor) (d : Draw), s.MwaitPasses → s.ecx.getLsbD 2 = true →
      d.enter = true →
      ∃ t, mwaitWith d (s.setMonitor m) = .next t ∧ t.run = .optimized s.eax s.ext)
    ∧ (∀ (s : State) (m : Monitor) (d : Draw) (hint : Word32) (e : Word64),
        s.run = .optimized hint e → e.getLsbD 2 = true → s.pending = .none →
        (d.wake = false → (waitTurn d e (s.setMonitor m)).run = .optimized hint e
          ∧ (waitTurn d e (s.setMonitor m)).monitor = m)
        ∧ (d.wake = true → (waitTurn d e (s.setMonitor m)).run = .executing))

/-- A completed MWAIT triggers the monitor in the monitored form, at once or on waking; in the
monitorless form it leaves it or triggers it, at once or on waking, the spec's decision D2
(41_mwait.md R73). The processor's turn may be listed or not. -/
def Obligations.CompletedMwaitTriggersTheMonitor : Prop :=
  (∀ s t : State, s.run = .executing → exec .mwait s = .next t → t.run = .executing →
      t.monitor = .triggered ∨ (s.ecx.getLsbD 2 = true ∧ t.monitor = s.monitor))
    ∧ (∀ (s t : State) (hint : Word32) (e : Word64), s.run = .optimized hint e →
        s.ProcessorMoves → step s = .next t → t.run = .executing →
        t.monitor = .triggered ∨ (e.getLsbD 2 = true ∧ t.monitor = s.monitor))
    ∧ (∀ (s : State) (d : Draw), s.ecx.getLsbD 2 = true → d.enter = false →
        (mwaitIssue d s).monitor = if d.trigger then .triggered else s.monitor)
    ∧ (∀ (s : State) (d : Draw) (e : Word64), e.getLsbD 2 = true →
        (d.wake = true ∨ s.BreakEvent e) →
        (waitTurn d e s).run = .executing
          ∧ (waitTurn d e s).monitor = if d.trigger then .triggered else s.monitor)

/-- One MONITOR per MWAIT: after a monitored MWAIT completes, at once or by waking from its wait, the
monitor is triggered, and a second monitored MWAIT does not wait; setting up MONITOR alone changes
nothing but the monitor and pc (70_reset_and_hazards.md R113). That MONITOR changes nothing else is the
model's choice (assumptions 25 and 42): R113 says "no adverse effects", R80 that its flags are not in
the source. -/
def Obligations.SecondMonitoredMwaitDoesNotWait : Prop :=
  (∀ s t : State, s.run = .executing → s.ecx.getLsbD 2 = false → exec .mwait s = .next t →
      t.run = .executing →
      t.monitor = .triggered
        ∧ ∃ u, exec .mwait t = .next u ∧ u.run = .executing ∧ u.monitor = .triggered)
    ∧ (∀ (s t : State) (hint : Word32) (e : Word64), s.run = .optimized hint e →
        e.getLsbD 2 = false → s.ProcessorMoves → step s = .next t → t.run = .executing →
        t.monitor = .triggered)
    ∧ (∀ s t : State, exec .monitor s = .next t →
        t = { s with monitor := t.monitor, pc := t.pc, draws := t.draws })

/-- Frame of MWAIT: no general register, flag, mode, privilege level, MSR bit, configuration, pending
event, turn or byte of memory changes (41_mwait.md R74, D17). -/
def Obligations.MwaitFrame : Prop :=
  ∀ s t : State, exec .mwait s = .next t →
    SameRegs s t ∧ SameSystem s t ∧ SameMem s t ∧ t.pending = s.pending ∧ t.agenda = s.agenda

/-- The hint in EAX changes no outcome of MWAIT: only the recorded hint differs (41_mwait.md R68, D8). -/
def Obligations.EaxHintChangesNoOutcome : Prop :=
  ∀ (s : State) (v : Word32),
    (∀ t, exec .mwait s = .next t →
      ∃ u, exec .mwait { s with eax := v } = .next u ∧ u.pc = t.pc ∧ u.monitor = t.monitor
        ∧ ((t.run = s.run ∧ u.run = s.run)
          ∨ (t.run = .optimized s.eax s.ext ∧ u.run = .optimized v s.ext)))
    ∧ (exec .mwait s = .fault (.invalidOpcode s) →
        exec .mwait { s with eax := v } = .fault (.invalidOpcode { s with eax := v }))
    ∧ (∀ c, exec .mwait s = .fault (.generalProtection c s) →
        exec .mwait { s with eax := v } = .fault (.generalProtection c { s with eax := v }))

/-- Bits 63:32 of RCX: outside 64-bit mode MWAIT does not examine them, be its outcome a completion or a
fault; in 64-bit mode, where no #UD condition holds, any of them set is #GP(0) (41_mwait.md R62, V30,
V33). -/
def Obligations.UpperHalfOfRcxMattersOnlyIn64BitMode : Prop :=
  (∀ (s t : State) (v : Word64), s.mode ≠ .long64 → v.setWidth 32 = s.ecx →
      exec .mwait s = .next t →
      ∃ u, exec .mwait { s with rcx := v } = .next u ∧ u.run = t.run ∧ u.monitor = t.monitor
        ∧ u.pc = t.pc)
    ∧ (∀ (s : State) (v : Word64), s.mode ≠ .long64 → v.setWidth 32 = s.ecx →
        (exec .mwait s = .fault (.invalidOpcode s) →
          exec .mwait { s with rcx := v } = .fault (.invalidOpcode { s with rcx := v }))
        ∧ (∀ c, exec .mwait s = .fault (.generalProtection c s) →
          exec .mwait { s with rcx := v } = .fault (.generalProtection c { s with rcx := v })))
    ∧ (∀ s : State, s.mode = .long64 → ¬ s.UdCondition → s.rcx.extractLsb' 32 32 ≠ 0 →
        exec .mwait s = .fault (.generalProtection (some 0) s))

/-- Table 17-2: EAX[7:4] = 1111B names C0, t from 0 to 14 names C(t+1), EAX[3:0] the sub-state
(41_mwait.md R68). -/
def Obligations.HintNamesTheTargetCState : Prop :=
  (∀ hint : Word32, hint.extractLsb' 4 4 = 0xF#4 → (requestedCState hint).number = 0)
    ∧ (∀ hint : Word32, hint.extractLsb' 4 4 ≠ 0xF#4 →
        (requestedCState hint).number = (hint.toNat / 16) % 16 + 1
          ∧ 1 ≤ (requestedCState hint).number ∧ (requestedCState hint).number ≤ 15)
    ∧ (∀ hint : Word32, (requestedCState hint).sub = hint.toNat % 16)

/-! ## Waiting and waking -/

/-- A waiting processor fetches and executes nothing: its turn, listed or not, always answers a next
state with pc, registers, flag, system state, memory and pending events as they were
(10_state.md R22). -/
def Obligations.WaitingProcessorExecutesNothing : Prop :=
  ∀ (s : State) (hint : Word32) (e : Word64), s.run = .optimized hint e → s.ProcessorMoves →
    ∃ t, step s = .next t ∧ t.pc = s.pc ∧ SameRegs s t ∧ SameSystem s t ∧ SameMem s t
      ∧ t.pending = s.pending ∧ t.agenda = s.agenda.tail
      ∧ ((t.run = s.run ∧ t.monitor = s.monitor) ∨ t.run = .executing)

/-- A named break event ends the wait at the processor's next turn: an NMI, an SMI, a debug exception, a
machine check, BINIT#, INIT#, RESET#, a store that triggered a monitored wait's monitor, or an external
interrupt that would be delivered or that extension bit 0 makes a break event; pc is the address after
MWAIT and the events stay pending (41_mwait.md R69, R70, R72). IntDeliverable is decision D18; that it
is the very next turn is the model's choice (assumption 15). -/
def Obligations.NamedBreakEventsEndTheWait : Prop :=
  ∀ (s : State) (hint : Word32) (e : Word64), s.run = .optimized hint e → s.ProcessorMoves →
    s.BreakEvent e →
    ∃ t, step s = .next t ∧ t.run = .executing ∧ t.pc = s.pc ∧ t.pending = s.pending
      ∧ t.agenda = s.agenda.tail

/-- A masked external interrupt with extension bit 0 set ends the wait, is not delivered and stays
pending; IF is unchanged (41_mwait.md R70, 60_exceptions.md R96, D21). The processor's turn may be listed
or not, and the step after it may be any agent's. That the very next turn wakes is the model's choice
(assumption 15). -/
def Obligations.MaskedInterruptBreaksTheWaitUndelivered : Prop :=
  ∀ (s : State) (hint : Word32) (e : Word64), s.run = .optimized hint e → s.ProcessorMoves →
    s.pending.extInt = true → s.intFlag = false → e.getLsbD 0 = true →
    ∃ t, step s = .next t ∧ t.run = .executing ∧ t.pending.extInt = true ∧ t.intFlag = false
      ∧ ∀ u, step t ≠ .fault (.event .extInt u)

/-- The wake step is enabled in every waiting state, for an implementation-dependent reason, and need
not be taken where no named break event is present: the infinite wait is admitted
(41_mwait.md R71). The processor's turn may be listed or not. -/
def Obligations.ImplementationDependentWakeIsAllowedNotForced : Prop :=
  ∀ (s : State) (hint : Word32) (e : Word64), s.run = .optimized hint e → s.ProcessorMoves →
    step s = .next (waitTurn s.draw e (s.setAgenda s.agenda.tail))
      ∧ (∀ d : Draw, d.wake = true →
          (waitTurn d e (s.setAgenda s.agenda.tail)).run = .executing)
      ∧ (∀ d : Draw, d.wake = false → ¬ s.BreakEvent e →
          (waitTurn d e (s.setAgenda s.agenda.tail)).run = s.run)

/-- A store by another processor agent to the armed range always ends a monitored wait
(20_memory.md R33, R38): the store triggers the monitor and the processor's turn after it wakes. That it is the very next turn is the
model's choice (assumption 15). -/
def Obligations.OtherProcessorsStoreEndsAMonitoredWait : Prop :=
  ∀ (s : State) (hint : Word32) (e : Word64) (r : Range) (a : Nat) (bs : List Byte)
    (rest : List Turn),
    s.run = .optimized hint e → e.getLsbD 2 = false → s.monitor = .armed r → r.Hit a bs.length →
    s.agenda = .store .otherProcessor a bs :: rest → (s.setAgenda rest).ProcessorMoves →
    ∃ t u, step s = .next t ∧ step t = .next u ∧ t.run = s.run ∧ u.run = .executing
      ∧ u.monitor = .triggered ∧ u.pc = s.pc

/-- No restart at MWAIT, for every draw: after a wait, whatever woke it, pc is the address of the
instruction after MWAIT, and what is delivered there is delivered with that address, whatever turns are
listed (41_mwait.md R72). -/
def Obligations.NoRestartAtMwait : Prop :=
  ∀ (s t : State) (d1 d2 : Draw) (hint : Word32) (e : Word64),
    mwaitWith d1 s = .next t → t.run = .optimized hint e →
    (waitTurn d2 e t).run = .executing →
    (waitTurn d2 e t).pc = s.pcPlus 3
      ∧ ∀ k v, step (waitTurn d2 e t) = .fault (.event k v) → v.pc = s.pcPlus 3

/-- Only MWAIT enters the optimized state, and only where its checks pass and it is monitorless or the
monitor is armed: after any step of an executing processor it executes still, or it was that (41_mwait.md R64, R65, 60_exceptions.md R102 item 3). -/
def Obligations.OnlyMwaitEntersTheOptimizedState : Prop :=
  ∀ s t : State, s.run = .executing → step s = .next t →
    t.run = .executing
      ∨ (t.run = .optimized s.eax s.ext ∧ s.ProcessorMoves ∧ s.HoldsAtPc .mwait ∧ s.MwaitPasses
          ∧ t.pc = s.pcPlus 3 ∧ (s.ecx.getLsbD 2 = true ∨ ∃ r, s.monitor = .armed r))

/-! ## Events at an instruction boundary -/

/-- Delivery, on the processor's turn, listed or not: an event is delivered on no other turn, it was
pending and not masked, the pc it saves is that of the next instruction, and delivery removes it (and
the listed turn) and changes nothing else; any pending unmasked event may be the one; with a debug
exception, machine check, BINIT#, INIT# or RESET# pending the run leaves the scope for certain
(60_exceptions.md R97, D26, X16). R97 and D26 speak of the boundary after a wait: that the rule is
applied at every instruction boundary is the model's choice (assumption 23), and so is it that none of
these events, nor an NMI, an SMI or an implementation-dependent event, is ever masked (assumption 43)
and that the forced ones come before a fault of the instruction at pc (assumption 47). -/
def Obligations.BoundaryDeliversPendingUnmaskedEvents : Prop :=
  (∀ (s : State) (k : EventKind) (t : State), step s = .fault (.event k t) →
      s.ProcessorMoves ∧ s.run = .executing ∧ s.pending.has k = true ∧ s.masked k = false
        ∧ t = (s.setAgenda s.agenda.tail).setPending (s.pending.set false k) ∧ t.pc = s.pc)
    ∧ (∀ (s : State) (k : EventKind), s.pending.has k = true → s.masked k = false →
        ∃ d, boundaryEvent d s = some k)
    ∧ (∀ (s : State) (k : EventKind), s.ProcessorMoves → s.run = .executing →
        s.pending.has k = true →
        (k = .debug ∨ k = .machineCheck ∨ k = .binit ∨ k = .init ∨ k = .reset) →
        ∃ j t, step s = .fault (.event j t))

/-- The platform raises an event: it becomes pending, every other kind is as it was, and nothing but
the agenda changes besides (10_state.md R23). -/
def Obligations.RaisedEventBecomesPending : Prop :=
  ∀ (s : State) (k : EventKind) (rest : List Turn), s.agenda = .raise k :: rest →
    ∃ t, step s = .next t ∧ t.pending.has k = true
      ∧ (∀ j, j ≠ k → t.pending.has j = s.pending.has j)
      ∧ t = { s with pending := t.pending, agenda := rest }

/-! ## MONITOR and stores -/

/-- MONITOR with bit 18 set and MONITOR supported: pc moves to the next instruction and the monitor is
armed with a range of MONITOR_RANGE_SIZE bytes that contains the address in EAX, replacing any range
before, or is idle (42_monitor_hlt.md R80; the placement is decision D15, that arming may fail D27, that
pc is taken modulo 2^ADDR_WIDTH D4, which assumption 9 extends to MONITOR; that MONITOR has no other
condition is assumption 25). -/
def Obligations.MonitorArmsARangeAroundTheAddress : Prop :=
  ∀ s : State, s.miscEnable = true → s.cfg.monitorHw = true →
    ∃ t, exec .monitor s = .next t ∧ t.pc = s.pcPlus 3
      ∧ (t.monitor = .idle
          ∨ ∃ r, t.monitor = .armed r ∧ r.size = s.cfg.rangeSize ∧ r.base ≤ s.eax.toNat
              ∧ s.eax.toNat < r.base + r.size)

/-- Every placement of the range that contains the address is admitted, and so is the failure to arm
(20_memory.md R31, D15, D27). -/
def Obligations.EveryPlacementOfTheRangeIsAdmitted : Prop :=
  ∀ (s : State) (base : Nat), base ≤ s.eax.toNat → s.eax.toNat < base + s.cfg.rangeSize →
    (∃ d, (monitorResult d s).monitor = .armed ⟨base, s.cfg.rangeSize⟩)
      ∧ ∃ d, (monitorResult d s).monitor = .idle

/-- MONITOR with bit 18 clear, or not supported, is #UD with nothing changed (42_monitor_hlt.md R81). -/
def Obligations.UnsupportedMonitorIsInvalidOpcode : Prop :=
  ∀ s : State, s.miscEnable = false ∨ s.bitMonitor = false →
    exec .monitor s = .fault (.invalidOpcode s)

/-- Frame of MONITOR: nothing but the monitor, pc and the model's counter changes. What MONITOR writes
besides the monitor is not in the source (42_monitor_hlt.md R80): nothing is the model's choice
(assumption 25). -/
def Obligations.MonitorFrame : Prop :=
  ∀ s t : State, exec .monitor s = .next t →
    SameRegs s t ∧ SameSystem s t ∧ SameMem s t ∧ t.pending = s.pending ∧ t.run = s.run
      ∧ t.agenda = s.agenda

/-- A store that overlaps the armed range triggers the monitor, whichever agent makes it while the
processor executes, and by another processor agent also while it waits (20_memory.md R32, D15). -/
def Obligations.StoreToTheArmedRangeTriggers : Prop :=
  ∀ (s : State) (g : Agent) (a : Nat) (bs : List Byte) (rest : List Turn) (r : Range),
    s.agenda = .store g a bs :: rest → s.monitor = .armed r → r.Hit a bs.length →
    (s.run = .executing ∨ g = .otherProcessor) →
    ∃ t, step s = .next t ∧ t.monitor = .triggered ∧ t.run = s.run ∧ t.pc = s.pc

/-- Frame of a store by an agent: the bytes stored read back, every other byte reads as before, no
register, flag, system state, event, run state or pc changes, and a monitor that is not armed, or whose
range is not hit, stays as it was (20_memory.md R32). A store of the waiting processor itself, which
executes nothing (10_state.md R22), is refused by name (assumption 34), and so is an earlier one that
became visible only then (the model's choice, assumption 46). -/
def Obligations.StoreFrame : Prop :=
  (∀ (s t : State) (g : Agent) (a : Nat) (bs : List Byte) (rest : List Turn),
    s.agenda = .store g a bs :: rest → step s = .next t →
    (∀ k, k < bs.length → t.mem.read (a + k) = bs[k]?)
      ∧ (∀ x, (x < a ∨ a + bs.length ≤ x) → t.mem.read x = s.mem.read x)
      ∧ SameRegs s t ∧ SameSystem s t ∧ t.pending = s.pending ∧ t.run = s.run ∧ t.pc = s.pc
      ∧ t.agenda = rest
      ∧ ((∀ r, s.monitor = .armed r → ¬ r.Hit a bs.length) → t.monitor = s.monitor))
    ∧ (∀ (s : State) (g : Agent) (a : Nat) (bs : List Byte) (rest : List Turn),
        s.agenda = .store g a bs :: rest →
        ((∃ t, step s = .next t) ↔ ¬ (g = .thisProcessor ∧ ∃ hint e, s.run = .optimized hint e))
          ∧ (∀ hint e, g = .thisProcessor → s.run = .optimized hint e →
              step s = .refused .ownStoreWhileWaiting))

/-- A non-processor agent's store to the armed range during a wait may or may not trigger the monitor,
for every hint: the spec's decision D16 (20_memory.md R33). -/
def Obligations.NonProcessorStoreDuringAWaitDraws : Prop :=
  ∀ (s : State) (hint : Word32) (e : Word64) (r : Range) (a : Nat) (bs : List Byte),
    s.run = .optimized hint e → s.monitor = .armed r → r.Hit a bs.length →
    (∃ d, (agentStore d .nonProcessor a bs s).monitor = .triggered)
      ∧ (∃ d, (agentStore d .nonProcessor a bs s).monitor = .armed r)

/-- A store after arming is never lost: it leaves the monitor triggered and visible in memory, and a
monitored MWAIT after it does not wait; a store before arming leaves an unarmed monitor as it was
(20_memory.md R34). -/
def Obligations.StoreAfterArmingIsNeverLost : Prop :=
  (∀ (s : State) (g : Agent) (a : Nat) (bs : List Byte) (rest : List Turn) (r : Range),
      s.agenda = .store g a bs :: rest → s.run = .executing → s.monitor = .armed r →
      r.Hit a bs.length →
      ∃ t, step s = .next t ∧ t.monitor = .triggered
        ∧ (∀ k, k < bs.length → t.mem.read (a + k) = bs[k]?)
        ∧ (t.MwaitPasses → t.ecx.getLsbD 2 = false →
            ∃ u, exec .mwait t = .next u ∧ u.run = .executing))
    ∧ (∀ (s : State) (g : Agent) (a : Nat) (bs : List Byte) (rest : List Turn),
        s.agenda = .store g a bs :: rest → s.run = .executing → (∀ r, s.monitor ≠ .armed r) →
        ∃ t, step s = .next t ∧ t.monitor = s.monitor
          ∧ (∀ k, k < bs.length → t.mem.read (a + k) = bs[k]?))

/-- The hazard of the omitted second check: a store before MONITOR arms is not seen by the monitor, and
a monitored MWAIT after it may wait all the same (70_reset_and_hazards.md R114, program P2 case G). -/
def Obligations.StoreBeforeArmingMayBeWaitedFor : Prop :=
  ∀ (s : State) (g : Agent) (a : Nat) (bs : List Byte) (d1 d2 d3 : Draw),
    s.run = .executing → s.MwaitPasses → s.ecx.getLsbD 2 = false → 0 < s.cfg.rangeSize →
    s.pending = .none → d2.arm = true → d3.enter = true →
    ∃ u r, mwaitWith d3 (monitorResult d2 (agentStore d1 g a bs s)) = .next u
      ∧ u.run = .optimized s.eax s.ext ∧ u.monitor = .armed r ∧ ¬ u.BreakEvent s.ext

/-! ## CPUID, enumeration and enabling -/

/-- CPUID always completes, with the bits the source names and pc at the next instruction
(40_enumeration_enabling.md R59). That it has no condition is the model's choice (assumption 27); pc is
taken modulo 2^ADDR_WIDTH by D4, which assumption 9 extends to CPUID. -/
def Obligations.CpuidReportsTheNamedBits : Prop :=
  ∀ s : State, ∃ t, exec .cpuid s = .next t ∧ t.pc = s.pcPlus 2
    ∧ (s.eax = 0x01#32 → t.ecx.getLsbD 3 = (s.cfg.monitorHw && s.miscEnable))
    ∧ (s.eax = 0x07#32 → s.ecx = 0x01#32 → t.edx.getLsbD 23 = (s.cfg.mwaitHw && s.miscEnable))
    ∧ (s.eax = 0x05#32 →
        ((s.cfg.monitorHw && s.miscEnable) = true ∨ (s.cfg.mwaitHw && s.miscEnable) = true) →
        t.ecx.getLsbD 0 = s.cfg.emx ∧ t.ecx.getLsbD 1 = s.cfg.ibe
          ∧ t.ecx.getLsbD 3 = s.cfg.monitorless)

/-- Frame of CPUID: nothing but its four output registers, pc and the model's counter changes. The flags
CPUID writes are not in the source (40_enumeration_enabling.md R59): none is the model's choice
(assumption 27). -/
def Obligations.CpuidFrame : Prop :=
  ∀ s t : State, exec .cpuid s = .next t →
    SameSystem s t ∧ SameMem s t ∧ t.monitor = s.monitor ∧ t.run = s.run
      ∧ t.pending = s.pending ∧ t.agenda = s.agenda

/-- Every output bit that the source does not name is free, in every leaf and all of them together: EAX
and EBX whole; ECX but for bit 3 of leaf 01H and bits 0, 1 and 3 of a supported leaf 05H; EDX but for
bit 23 of leaf 07H, sub-leaf 01H (40_enumeration_enabling.md R59, R53, D12, X3); and RCX[63:32]
(assumption 27). -/
def Obligations.UnnamedCpuidBitsAreFree : Prop :=
  ∀ (s : State) (a b c v high : Word32),
    ∃ d, (cpuidResult d s).eax = a ∧ (cpuidResult d s).ebx = b
      ∧ (cpuidResult d s).rcx.extractLsb' 32 32 = high
      ∧ (∀ k, ¬ (s.eax = 0x01#32 ∧ k = 3) →
          ¬ (s.eax = 0x05#32 ∧ s.leaf05 = true ∧ (k = 0 ∨ k = 1 ∨ k = 3)) →
          (cpuidResult d s).ecx.getLsbD k = c.getLsbD k)
      ∧ (∀ k, ¬ (s.eax = 0x07#32 ∧ s.ecx = 0x01#32 ∧ k = 23) →
          (cpuidResult d s).edx.getLsbD k = v.getLsbD k)

/-- The support matrix at privilege level 0 outside virtual-8086 mode, under the default priority, for
ECX (RCX) 0 and 4 (40_enumeration_enabling.md R55). That a supported MONITOR completes for every ECX
and EDX is the model's choice (assumption 25): R55 says "supported", and R81 that MONITOR's other faults
are not in the source. -/
def Obligations.SupportMatrix : Prop :=
  ∀ s : State, s.mode ≠ .v8086 → (s.mode = .real ∨ s.cpl = 0) → s.cfg.faultPriority = .udFirst →
    (s.leaf05 = true ↔ s.bitMonitor = true ∨ s.bitMwait = true)
    ∧ (s.bitMonitor = true → ∃ t, exec .monitor s = .next t)
    ∧ (s.bitMonitor = false → exec .monitor s = .fault (.invalidOpcode s))
    ∧ (s.bitMonitor = false → s.bitMwait = false → exec .mwait s = .fault (.invalidOpcode s))
    ∧ (s.ext = 0 → s.bitMonitor = true → ∃ t, exec .mwait s = .next t)
    ∧ (s.ext = 0 → s.bitMonitor = false → s.bitMwait = true →
        exec .mwait s = .fault (.generalProtection s.gpCode s))
    ∧ (s.ext = 4 → (s.bitMonitor = true ∨ s.bitMwait = true) → s.bitMonitorless = true →
        ∃ t, exec .mwait s = .next t)
    ∧ (s.ext = 4 → (s.bitMonitor = true ∨ s.bitMwait = true) → s.bitMonitorless = false →
        exec .mwait s = .fault (.generalProtection s.gpCode s))

/-- With IA32_MISC_ENABLE[18] = 0: MONITOR is #UD, MWAIT is #UD in every mode, at every privilege level
and for every ECX (wherever #UD is reported for certain), the two CPUID bits read 0 and leaf 05H is not
supported (40_enumeration_enabling.md R58). -/
def Obligations.ClearedEnableBitDisablesBoth : Prop :=
  ∀ s : State, s.miscEnable = false →
    exec .monitor s = .fault (.invalidOpcode s)
      ∧ (s.ReportsUd → exec .mwait s = .fault (.invalidOpcode s))
      ∧ s.leaf05 = false
      ∧ (∀ t, s.eax = 0x01#32 → exec .cpuid s = .next t → t.ecx.getLsbD 3 = false)
      ∧ (∀ t, s.eax = 0x07#32 → s.ecx = 0x01#32 → exec .cpuid s = .next t →
          t.edx.getLsbD 23 = false)

/-- System software's write of bit 18: while the processor executes the bit takes the value and the
CPUID bits follow, registers, memory, pc and events as before, the monitor as before when the bit is
set (it is unspecified when it is cleared); while the processor waits there is no such step
(40_enumeration_enabling.md R58; the spec's decision D19). -/
def Obligations.EnableBitWriteTakesEffectAtOnce : Prop :=
  ∀ (s : State) (b : Bool) (rest : List Turn), s.agenda = .writeMiscEnable b :: rest →
    (s.run = .executing →
      ∃ t, step s = .next t ∧ t.miscEnable = b ∧ t.bitMonitor = (s.cfg.monitorHw && b)
        ∧ t.bitMwait = (s.cfg.mwaitHw && b) ∧ (b = true → t.monitor = s.monitor)
        ∧ SameRegs s t ∧ SameMem s t ∧ t.pc = s.pc ∧ t.run = s.run ∧ t.pending = s.pending)
    ∧ (∀ hint e, s.run = .optimized hint e → step s = .refused .miscEnableWhileWaiting)

/-- Software that follows the discovery procedures is never wrong: where they offer the monitored pair,
MONITOR completes and MWAIT with ECX = 0 completes; where they offer monitorless MWAIT, MWAIT with
ECX = 4 completes; at privilege level 0 outside virtual-8086 mode (40_enumeration_enabling.md R56). That
MONITOR completes there for every ECX and EDX is the model's choice (assumption 25): R56 says that it
may be used, and R81 that its other faults are not in the source. -/
def Obligations.DiscoveryIsSound : Prop :=
  ∀ s : State, s.mode ≠ .v8086 → (s.mode = .real ∨ s.cpl = 0) → s.miscEnable = true →
    (s.offersMonitoredPair = true → s.leaf05 = true ∧ (∃ t, exec .monitor s = .next t)
        ∧ (s.ext = 0 → ∃ t, exec .mwait s = .next t))
      ∧ (s.offersMonitorless = true → s.ext = 4 → ∃ t, exec .mwait s = .next t)

/-- All cores of a consistent hybrid CPU read the same `m`, `w` and `l` while bit 18 is the same on them
(40_enumeration_enabling.md R57). The premise on bit 18 is needed because the check compares the raw
bits of the configurations only, the model's choice (assumption 45). -/
def Obligations.HybridCoresEnumerateAlike : Prop :=
  ∀ (cores : List Config) (s t : State), Config.hybridConsistent cores = true → s.cfg ∈ cores →
    t.cfg ∈ cores → s.miscEnable = t.miscEnable →
    s.bitMonitor = t.bitMonitor ∧ s.bitMwait = t.bitMwait ∧ s.bitMonitorless = t.bitMonitorless

/-- A guest cannot tell: with the bits the recipe presents, at privilege level 0 outside virtual-8086
mode and with no reserved or unsupported extension set, every instruction does by the plain rules what
the VMM's answer to its interception gives, and so what the guest sees whichever executions
`VmmIntercept` has leave it; outside a guest, where the parameter is absent, the plain rules hold
everywhere (60_exceptions.md R99, D22). The priority of interception and the way the wait is
virtualized are the model's choice (assumption 44). -/
def Obligations.GuestCannotTellTheVirtualizedFeature : Prop :=
  (∀ (s : State) (c : Config) (v : VmmIntercept) (i : Instr), s.cfg = guestConfig c v →
      s.miscEnable = true → s.mode ≠ .v8086 → (s.mode = .real ∨ s.cpl = 0) →
      extReserved s.ext = false → (s.ecx.getLsbD 0 = true → s.bitIbe = true) →
      exec i s = vmmAnswer i s ∧ guestExec i s = exec i s)
    ∧ ∀ (s : State) (i : Instr), s.cfg.vmmIntercept = none → guestExec i s = exec i s

/-! ## Whole-machine rules -/

/-- No step changes the mode, the privilege level, IF or the configuration (41_mwait.md R74,
10_state.md R15 to R17, R19). R74 speaks of MWAIT: that MONITOR and CPUID write no flag, level or mode
is the model's choice (assumptions 25 and 27), for 42_monitor_hlt.md R80 and
40_enumeration_enabling.md R59 say that their flags are not in the source; of the other agents it is
assumption 42. -/
def Obligations.NoStepChangesModePrivilegeFlagOrConfiguration : Prop :=
  ∀ s t : State, step s = .next t →
    t.mode = s.mode ∧ t.cpl = s.cpl ∧ t.intFlag = s.intFlag ∧ t.cfg = s.cfg

/-- Only system software writes IA32_MISC_ENABLE[18], and only while the processor executes
(10_state.md R18, D19). -/
def Obligations.OnlySystemSoftwareWritesTheEnableBit : Prop :=
  ∀ s t : State, step s = .next t →
    t.miscEnable = s.miscEnable
      ∨ (s.run = .executing ∧ ∃ b rest, s.agenda = .writeMiscEnable b :: rest ∧ t.miscEnable = b)

/-- Only an agent's store changes memory, and it writes exactly its bytes (20_memory.md R30, R32). -/
def Obligations.OnlyStoresChangeMemory : Prop :=
  ∀ s t : State, step s = .next t →
    t.mem = s.mem
      ∨ ∃ g a bs rest, s.agenda = .store g a bs :: rest ∧ t.mem = s.mem.writeBytes a bs

/-- Only CPUID writes general registers (10_state.md R13, 41_mwait.md R74,
40_enumeration_enabling.md R59). That MONITOR writes none is the model's choice (assumption 25), and so
is it that a store's turn writes none (assumption 34). -/
def Obligations.OnlyCpuidWritesGeneralRegisters : Prop :=
  ∀ s t : State, step s = .next t →
    SameRegs s t ∨ (s.ProcessorMoves ∧ s.run = .executing ∧ s.HoldsAtPc .cpuid)

/-- MWAIT reads of the general registers EAX and ECX (RCX) alone and writes none: it neither reads nor
writes EDX, and EBX, which R13 leaves unnamed, no more (10_state.md R13). -/
def Obligations.MwaitReadsNoRegisterButEaxAndRcx : Prop :=
  ∀ (s : State) (b v : Word32),
    (∀ t, exec .mwait s = .next t →
      SameRegs s t
        ∧ exec .mwait { s with ebx := b, edx := v } = .next { t with ebx := b, edx := v })
    ∧ (exec .mwait s = .fault (.invalidOpcode s) →
        exec .mwait { s with ebx := b, edx := v }
          = .fault (.invalidOpcode { s with ebx := b, edx := v }))
    ∧ (∀ code, exec .mwait s = .fault (.generalProtection code s) →
        exec .mwait { s with ebx := b, edx := v }
          = .fault (.generalProtection code { s with ebx := b, edx := v }))
end

