-- ==== Sys2Proof/Laws/State.lean ====
section
/-! SUPPORT. One lemma per field per update of State, so that no proof unfolds a record update; and how
the functions of a state that read only the configuration, the mode or the registers see an update. -/

namespace Sys2Proof.Machine

/-! ## setPc -/

@[simp] theorem State.setPc_eax (s : State) (v : Word64) :
    (s.setPc v).eax = s.eax := rfl
@[simp] theorem State.setPc_ebx (s : State) (v : Word64) :
    (s.setPc v).ebx = s.ebx := rfl
@[simp] theorem State.setPc_rcx (s : State) (v : Word64) :
    (s.setPc v).rcx = s.rcx := rfl
@[simp] theorem State.setPc_edx (s : State) (v : Word64) :
    (s.setPc v).edx = s.edx := rfl
@[simp] theorem State.setPc_pc (s : State) (v : Word64) :
    (s.setPc v).pc = v := rfl
@[simp] theorem State.setPc_intFlag (s : State) (v : Word64) :
    (s.setPc v).intFlag = s.intFlag := rfl
@[simp] theorem State.setPc_cpl (s : State) (v : Word64) :
    (s.setPc v).cpl = s.cpl := rfl
@[simp] theorem State.setPc_mode (s : State) (v : Word64) :
    (s.setPc v).mode = s.mode := rfl
@[simp] theorem State.setPc_miscEnable (s : State) (v : Word64) :
    (s.setPc v).miscEnable = s.miscEnable := rfl
@[simp] theorem State.setPc_monitor (s : State) (v : Word64) :
    (s.setPc v).monitor = s.monitor := rfl
@[simp] theorem State.setPc_run (s : State) (v : Word64) :
    (s.setPc v).run = s.run := rfl
@[simp] theorem State.setPc_pending (s : State) (v : Word64) :
    (s.setPc v).pending = s.pending := rfl
@[simp] theorem State.setPc_mem (s : State) (v : Word64) :
    (s.setPc v).mem = s.mem := rfl
@[simp] theorem State.setPc_cfg (s : State) (v : Word64) :
    (s.setPc v).cfg = s.cfg := rfl
@[simp] theorem State.setPc_draws (s : State) (v : Word64) :
    (s.setPc v).draws = s.draws := rfl
@[simp] theorem State.setPc_agenda (s : State) (v : Word64) :
    (s.setPc v).agenda = s.agenda := rfl

@[simp] theorem State.setPc_width (s : State) (v : Word64) :
    (s.setPc v).width = s.width := rfl
@[simp] theorem State.setPc_ecx (s : State) (v : Word64) :
    (s.setPc v).ecx = s.ecx := rfl
@[simp] theorem State.setPc_ext (s : State) (v : Word64) :
    (s.setPc v).ext = s.ext := rfl
@[simp] theorem State.setPc_bitMonitor (s : State) (v : Word64) :
    (s.setPc v).bitMonitor = s.bitMonitor := rfl
@[simp] theorem State.setPc_bitMwait (s : State) (v : Word64) :
    (s.setPc v).bitMwait = s.bitMwait := rfl
@[simp] theorem State.setPc_leaf05 (s : State) (v : Word64) :
    (s.setPc v).leaf05 = s.leaf05 := rfl
@[simp] theorem State.setPc_bitMonitorless (s : State) (v : Word64) :
    (s.setPc v).bitMonitorless = s.bitMonitorless := rfl
@[simp] theorem State.setPc_bitIbe (s : State) (v : Word64) :
    (s.setPc v).bitIbe = s.bitIbe := rfl
@[simp] theorem State.setPc_bitEmx (s : State) (v : Word64) :
    (s.setPc v).bitEmx = s.bitEmx := rfl
@[simp] theorem State.setPc_intDeliverable (s : State) (v : Word64) :
    (s.setPc v).intDeliverable = s.intDeliverable := rfl
@[simp] theorem State.setPc_waiting (s : State) (v : Word64) :
    (s.setPc v).waiting = s.waiting := rfl
@[simp] theorem State.setPc_monitorArmed (s : State) (v : Word64) :
    (s.setPc v).monitorArmed = s.monitorArmed := rfl
@[simp] theorem State.setPc_deliverable (s : State) (v : Word64) :
    (s.setPc v).deliverable = s.deliverable := rfl
@[simp] theorem State.setPc_draw (s : State) (v : Word64) :
    (s.setPc v).draw = s.draw := rfl
@[simp] theorem State.setPc_monitorAddress (s : State) (v : Word64) :
    (s.setPc v).monitorAddress = s.monitorAddress := rfl
@[simp] theorem State.setPc_cpuidLeaf (s : State) (v : Word64) :
    (s.setPc v).cpuidLeaf = s.cpuidLeaf := rfl
@[simp] theorem State.setPc_cpuidSubleaf (s : State) (v : Word64) :
    (s.setPc v).cpuidSubleaf = s.cpuidSubleaf := rfl
@[simp] theorem State.setPc_gpCode (s : State) (v : Word64) :
    (s.setPc v).gpCode = s.gpCode := rfl
@[simp] theorem State.setPc_rangeFits (s : State) (v : Word64) :
    (s.setPc v).rangeFits = s.rangeFits := rfl

/-! ## setMonitor -/

@[simp] theorem State.setMonitor_eax (s : State) (m : Monitor) :
    (s.setMonitor m).eax = s.eax := rfl
@[simp] theorem State.setMonitor_ebx (s : State) (m : Monitor) :
    (s.setMonitor m).ebx = s.ebx := rfl
@[simp] theorem State.setMonitor_rcx (s : State) (m : Monitor) :
    (s.setMonitor m).rcx = s.rcx := rfl
@[simp] theorem State.setMonitor_edx (s : State) (m : Monitor) :
    (s.setMonitor m).edx = s.edx := rfl
@[simp] theorem State.setMonitor_pc (s : State) (m : Monitor) :
    (s.setMonitor m).pc = s.pc := rfl
@[simp] theorem State.setMonitor_intFlag (s : State) (m : Monitor) :
    (s.setMonitor m).intFlag = s.intFlag := rfl
@[simp] theorem State.setMonitor_cpl (s : State) (m : Monitor) :
    (s.setMonitor m).cpl = s.cpl := rfl
@[simp] theorem State.setMonitor_mode (s : State) (m : Monitor) :
    (s.setMonitor m).mode = s.mode := rfl
@[simp] theorem State.setMonitor_miscEnable (s : State) (m : Monitor) :
    (s.setMonitor m).miscEnable = s.miscEnable := rfl
@[simp] theorem State.setMonitor_monitor (s : State) (m : Monitor) :
    (s.setMonitor m).monitor = m := rfl
@[simp] theorem State.setMonitor_run (s : State) (m : Monitor) :
    (s.setMonitor m).run = s.run := rfl
@[simp] theorem State.setMonitor_pending (s : State) (m : Monitor) :
    (s.setMonitor m).pending = s.pending := rfl
@[simp] theorem State.setMonitor_mem (s : State) (m : Monitor) :
    (s.setMonitor m).mem = s.mem := rfl
@[simp] theorem State.setMonitor_cfg (s : State) (m : Monitor) :
    (s.setMonitor m).cfg = s.cfg := rfl
@[simp] theorem State.setMonitor_draws (s : State) (m : Monitor) :
    (s.setMonitor m).draws = s.draws := rfl
@[simp] theorem State.setMonitor_agenda (s : State) (m : Monitor) :
    (s.setMonitor m).agenda = s.agenda := rfl

@[simp] theorem State.setMonitor_width (s : State) (m : Monitor) :
    (s.setMonitor m).width = s.width := rfl
@[simp] theorem State.setMonitor_ecx (s : State) (m : Monitor) :
    (s.setMonitor m).ecx = s.ecx := rfl
@[simp] theorem State.setMonitor_ext (s : State) (m : Monitor) :
    (s.setMonitor m).ext = s.ext := rfl
@[simp] theorem State.setMonitor_bitMonitor (s : State) (m : Monitor) :
    (s.setMonitor m).bitMonitor = s.bitMonitor := rfl
@[simp] theorem State.setMonitor_bitMwait (s : State) (m : Monitor) :
    (s.setMonitor m).bitMwait = s.bitMwait := rfl
@[simp] theorem State.setMonitor_leaf05 (s : State) (m : Monitor) :
    (s.setMonitor m).leaf05 = s.leaf05 := rfl
@[simp] theorem State.setMonitor_bitMonitorless (s : State) (m : Monitor) :
    (s.setMonitor m).bitMonitorless = s.bitMonitorless := rfl
@[simp] theorem State.setMonitor_bitIbe (s : State) (m : Monitor) :
    (s.setMonitor m).bitIbe = s.bitIbe := rfl
@[simp] theorem State.setMonitor_bitEmx (s : State) (m : Monitor) :
    (s.setMonitor m).bitEmx = s.bitEmx := rfl
@[simp] theorem State.setMonitor_intDeliverable (s : State) (m : Monitor) :
    (s.setMonitor m).intDeliverable = s.intDeliverable := rfl
@[simp] theorem State.setMonitor_waiting (s : State) (m : Monitor) :
    (s.setMonitor m).waiting = s.waiting := rfl
@[simp] theorem State.setMonitor_deliverable (s : State) (m : Monitor) :
    (s.setMonitor m).deliverable = s.deliverable := rfl
@[simp] theorem State.setMonitor_draw (s : State) (m : Monitor) :
    (s.setMonitor m).draw = s.draw := rfl
@[simp] theorem State.setMonitor_monitorAddress (s : State) (m : Monitor) :
    (s.setMonitor m).monitorAddress = s.monitorAddress := rfl
@[simp] theorem State.setMonitor_cpuidLeaf (s : State) (m : Monitor) :
    (s.setMonitor m).cpuidLeaf = s.cpuidLeaf := rfl
@[simp] theorem State.setMonitor_cpuidSubleaf (s : State) (m : Monitor) :
    (s.setMonitor m).cpuidSubleaf = s.cpuidSubleaf := rfl
@[simp] theorem State.setMonitor_gpCode (s : State) (m : Monitor) :
    (s.setMonitor m).gpCode = s.gpCode := rfl
@[simp] theorem State.setMonitor_pcPlus (s : State) (m : Monitor) (k : Nat) :
    (s.setMonitor m).pcPlus k = s.pcPlus k := rfl

/-! ## setRun -/

@[simp] theorem State.setRun_eax (s : State) (r : Run) :
    (s.setRun r).eax = s.eax := rfl
@[simp] theorem State.setRun_ebx (s : State) (r : Run) :
    (s.setRun r).ebx = s.ebx := rfl
@[simp] theorem State.setRun_rcx (s : State) (r : Run) :
    (s.setRun r).rcx = s.rcx := rfl
@[simp] theorem State.setRun_edx (s : State) (r : Run) :
    (s.setRun r).edx = s.edx := rfl
@[simp] theorem State.setRun_pc (s : State) (r : Run) :
    (s.setRun r).pc = s.pc := rfl
@[simp] theorem State.setRun_intFlag (s : State) (r : Run) :
    (s.setRun r).intFlag = s.intFlag := rfl
@[simp] theorem State.setRun_cpl (s : State) (r : Run) :
    (s.setRun r).cpl = s.cpl := rfl
@[simp] theorem State.setRun_mode (s : State) (r : Run) :
    (s.setRun r).mode = s.mode := rfl
@[simp] theorem State.setRun_miscEnable (s : State) (r : Run) :
    (s.setRun r).miscEnable = s.miscEnable := rfl
@[simp] theorem State.setRun_monitor (s : State) (r : Run) :
    (s.setRun r).monitor = s.monitor := rfl
@[simp] theorem State.setRun_run (s : State) (r : Run) :
    (s.setRun r).run = r := rfl
@[simp] theorem State.setRun_pending (s : State) (r : Run) :
    (s.setRun r).pending = s.pending := rfl
@[simp] theorem State.setRun_mem (s : State) (r : Run) :
    (s.setRun r).mem = s.mem := rfl
@[simp] theorem State.setRun_cfg (s : State) (r : Run) :
    (s.setRun r).cfg = s.cfg := rfl
@[simp] theorem State.setRun_draws (s : State) (r : Run) :
    (s.setRun r).draws = s.draws := rfl
@[simp] theorem State.setRun_agenda (s : State) (r : Run) :
    (s.setRun r).agenda = s.agenda := rfl

@[simp] theorem State.setRun_width (s : State) (r : Run) :
    (s.setRun r).width = s.width := rfl
@[simp] theorem State.setRun_ecx (s : State) (r : Run) :
    (s.setRun r).ecx = s.ecx := rfl
@[simp] theorem State.setRun_ext (s : State) (r : Run) :
    (s.setRun r).ext = s.ext := rfl
@[simp] theorem State.setRun_bitMonitor (s : State) (r : Run) :
    (s.setRun r).bitMonitor = s.bitMonitor := rfl
@[simp] theorem State.setRun_bitMwait (s : State) (r : Run) :
    (s.setRun r).bitMwait = s.bitMwait := rfl
@[simp] theorem State.setRun_leaf05 (s : State) (r : Run) :
    (s.setRun r).leaf05 = s.leaf05 := rfl
@[simp] theorem State.setRun_bitMonitorless (s : State) (r : Run) :
    (s.setRun r).bitMonitorless = s.bitMonitorless := rfl
@[simp] theorem State.setRun_bitIbe (s : State) (r : Run) :
    (s.setRun r).bitIbe = s.bitIbe := rfl
@[simp] theorem State.setRun_bitEmx (s : State) (r : Run) :
    (s.setRun r).bitEmx = s.bitEmx := rfl
@[simp] theorem State.setRun_intDeliverable (s : State) (r : Run) :
    (s.setRun r).intDeliverable = s.intDeliverable := rfl
@[simp] theorem State.setRun_monitorArmed (s : State) (r : Run) :
    (s.setRun r).monitorArmed = s.monitorArmed := rfl
@[simp] theorem State.setRun_deliverable (s : State) (r : Run) :
    (s.setRun r).deliverable = s.deliverable := rfl
@[simp] theorem State.setRun_draw (s : State) (r : Run) :
    (s.setRun r).draw = s.draw := rfl
@[simp] theorem State.setRun_monitorAddress (s : State) (r : Run) :
    (s.setRun r).monitorAddress = s.monitorAddress := rfl
@[simp] theorem State.setRun_cpuidLeaf (s : State) (r : Run) :
    (s.setRun r).cpuidLeaf = s.cpuidLeaf := rfl
@[simp] theorem State.setRun_cpuidSubleaf (s : State) (r : Run) :
    (s.setRun r).cpuidSubleaf = s.cpuidSubleaf := rfl
@[simp] theorem State.setRun_gpCode (s : State) (r : Run) :
    (s.setRun r).gpCode = s.gpCode := rfl
@[simp] theorem State.setRun_rangeFits (s : State) (r : Run) :
    (s.setRun r).rangeFits = s.rangeFits := rfl
@[simp] theorem State.setRun_pcPlus (s : State) (r : Run) (k : Nat) :
    (s.setRun r).pcPlus k = s.pcPlus k := rfl

/-! ## setPending -/

@[simp] theorem State.setPending_eax (s : State) (p : Pending) :
    (s.setPending p).eax = s.eax := rfl
@[simp] theorem State.setPending_ebx (s : State) (p : Pending) :
    (s.setPending p).ebx = s.ebx := rfl
@[simp] theorem State.setPending_rcx (s : State) (p : Pending) :
    (s.setPending p).rcx = s.rcx := rfl
@[simp] theorem State.setPending_edx (s : State) (p : Pending) :
    (s.setPending p).edx = s.edx := rfl
@[simp] theorem State.setPending_pc (s : State) (p : Pending) :
    (s.setPending p).pc = s.pc := rfl
@[simp] theorem State.setPending_intFlag (s : State) (p : Pending) :
    (s.setPending p).intFlag = s.intFlag := rfl
@[simp] theorem State.setPending_cpl (s : State) (p : Pending) :
    (s.setPending p).cpl = s.cpl := rfl
@[simp] theorem State.setPending_mode (s : State) (p : Pending) :
    (s.setPending p).mode = s.mode := rfl
@[simp] theorem State.setPending_miscEnable (s : State) (p : Pending) :
    (s.setPending p).miscEnable = s.miscEnable := rfl
@[simp] theorem State.setPending_monitor (s : State) (p : Pending) :
    (s.setPending p).monitor = s.monitor := rfl
@[simp] theorem State.setPending_run (s : State) (p : Pending) :
    (s.setPending p).run = s.run := rfl
@[simp] theorem State.setPending_pending (s : State) (p : Pending) :
    (s.setPending p).pending = p := rfl
@[simp] theorem State.setPending_mem (s : State) (p : Pending) :
    (s.setPending p).mem = s.mem := rfl
@[simp] theorem State.setPending_cfg (s : State) (p : Pending) :
    (s.setPending p).cfg = s.cfg := rfl
@[simp] theorem State.setPending_draws (s : State) (p : Pending) :
    (s.setPending p).draws = s.draws := rfl
@[simp] theorem State.setPending_agenda (s : State) (p : Pending) :
    (s.setPending p).agenda = s.agenda := rfl

@[simp] theorem State.setPending_width (s : State) (p : Pending) :
    (s.setPending p).width = s.width := rfl
@[simp] theorem State.setPending_ecx (s : State) (p : Pending) :
    (s.setPending p).ecx = s.ecx := rfl
@[simp] theorem State.setPending_ext (s : State) (p : Pending) :
    (s.setPending p).ext = s.ext := rfl
@[simp] theorem State.setPending_bitMonitor (s : State) (p : Pending) :
    (s.setPending p).bitMonitor = s.bitMonitor := rfl
@[simp] theorem State.setPending_bitMwait (s : State) (p : Pending) :
    (s.setPending p).bitMwait = s.bitMwait := rfl
@[simp] theorem State.setPending_leaf05 (s : State) (p : Pending) :
    (s.setPending p).leaf05 = s.leaf05 := rfl
@[simp] theorem State.setPending_bitMonitorless (s : State) (p : Pending) :
    (s.setPending p).bitMonitorless = s.bitMonitorless := rfl
@[simp] theorem State.setPending_bitIbe (s : State) (p : Pending) :
    (s.setPending p).bitIbe = s.bitIbe := rfl
@[simp] theorem State.setPending_bitEmx (s : State) (p : Pending) :
    (s.setPending p).bitEmx = s.bitEmx := rfl
@[simp] theorem State.setPending_intDeliverable (s : State) (p : Pending) :
    (s.setPending p).intDeliverable = s.intDeliverable := rfl
@[simp] theorem State.setPending_waiting (s : State) (p : Pending) :
    (s.setPending p).waiting = s.waiting := rfl
@[simp] theorem State.setPending_monitorArmed (s : State) (p : Pending) :
    (s.setPending p).monitorArmed = s.monitorArmed := rfl
@[simp] theorem State.setPending_draw (s : State) (p : Pending) :
    (s.setPending p).draw = s.draw := rfl
@[simp] theorem State.setPending_monitorAddress (s : State) (p : Pending) :
    (s.setPending p).monitorAddress = s.monitorAddress := rfl
@[simp] theorem State.setPending_cpuidLeaf (s : State) (p : Pending) :
    (s.setPending p).cpuidLeaf = s.cpuidLeaf := rfl
@[simp] theorem State.setPending_cpuidSubleaf (s : State) (p : Pending) :
    (s.setPending p).cpuidSubleaf = s.cpuidSubleaf := rfl
@[simp] theorem State.setPending_gpCode (s : State) (p : Pending) :
    (s.setPending p).gpCode = s.gpCode := rfl
@[simp] theorem State.setPending_rangeFits (s : State) (p : Pending) :
    (s.setPending p).rangeFits = s.rangeFits := rfl
@[simp] theorem State.setPending_pcPlus (s : State) (p : Pending) (k : Nat) :
    (s.setPending p).pcPlus k = s.pcPlus k := rfl

/-! ## setMem -/

@[simp] theorem State.setMem_eax (s : State) (m : Memory) :
    (s.setMem m).eax = s.eax := rfl
@[simp] theorem State.setMem_ebx (s : State) (m : Memory) :
    (s.setMem m).ebx = s.ebx := rfl
@[simp] theorem State.setMem_rcx (s : State) (m : Memory) :
    (s.setMem m).rcx = s.rcx := rfl
@[simp] theorem State.setMem_edx (s : State) (m : Memory) :
    (s.setMem m).edx = s.edx := rfl
@[simp] theorem State.setMem_pc (s : State) (m : Memory) :
    (s.setMem m).pc = s.pc := rfl
@[simp] theorem State.setMem_intFlag (s : State) (m : Memory) :
    (s.setMem m).intFlag = s.intFlag := rfl
@[simp] theorem State.setMem_cpl (s : State) (m : Memory) :
    (s.setMem m).cpl = s.cpl := rfl
@[simp] theorem State.setMem_mode (s : State) (m : Memory) :
    (s.setMem m).mode = s.mode := rfl
@[simp] theorem State.setMem_miscEnable (s : State) (m : Memory) :
    (s.setMem m).miscEnable = s.miscEnable := rfl
@[simp] theorem State.setMem_monitor (s : State) (m : Memory) :
    (s.setMem m).monitor = s.monitor := rfl
@[simp] theorem State.setMem_run (s : State) (m : Memory) :
    (s.setMem m).run = s.run := rfl
@[simp] theorem State.setMem_pending (s : State) (m : Memory) :
    (s.setMem m).pending = s.pending := rfl
@[simp] theorem State.setMem_mem (s : State) (m : Memory) :
    (s.setMem m).mem = m := rfl
@[simp] theorem State.setMem_cfg (s : State) (m : Memory) :
    (s.setMem m).cfg = s.cfg := rfl
@[simp] theorem State.setMem_draws (s : State) (m : Memory) :
    (s.setMem m).draws = s.draws := rfl
@[simp] theorem State.setMem_agenda (s : State) (m : Memory) :
    (s.setMem m).agenda = s.agenda := rfl

@[simp] theorem State.setMem_width (s : State) (m : Memory) :
    (s.setMem m).width = s.width := rfl
@[simp] theorem State.setMem_ecx (s : State) (m : Memory) :
    (s.setMem m).ecx = s.ecx := rfl
@[simp] theorem State.setMem_ext (s : State) (m : Memory) :
    (s.setMem m).ext = s.ext := rfl
@[simp] theorem State.setMem_bitMonitor (s : State) (m : Memory) :
    (s.setMem m).bitMonitor = s.bitMonitor := rfl
@[simp] theorem State.setMem_bitMwait (s : State) (m : Memory) :
    (s.setMem m).bitMwait = s.bitMwait := rfl
@[simp] theorem State.setMem_leaf05 (s : State) (m : Memory) :
    (s.setMem m).leaf05 = s.leaf05 := rfl
@[simp] theorem State.setMem_bitMonitorless (s : State) (m : Memory) :
    (s.setMem m).bitMonitorless = s.bitMonitorless := rfl
@[simp] theorem State.setMem_bitIbe (s : State) (m : Memory) :
    (s.setMem m).bitIbe = s.bitIbe := rfl
@[simp] theorem State.setMem_bitEmx (s : State) (m : Memory) :
    (s.setMem m).bitEmx = s.bitEmx := rfl
@[simp] theorem State.setMem_intDeliverable (s : State) (m : Memory) :
    (s.setMem m).intDeliverable = s.intDeliverable := rfl
@[simp] theorem State.setMem_waiting (s : State) (m : Memory) :
    (s.setMem m).waiting = s.waiting := rfl
@[simp] theorem State.setMem_monitorArmed (s : State) (m : Memory) :
    (s.setMem m).monitorArmed = s.monitorArmed := rfl
@[simp] theorem State.setMem_deliverable (s : State) (m : Memory) :
    (s.setMem m).deliverable = s.deliverable := rfl
@[simp] theorem State.setMem_draw (s : State) (m : Memory) :
    (s.setMem m).draw = s.draw := rfl
@[simp] theorem State.setMem_monitorAddress (s : State) (m : Memory) :
    (s.setMem m).monitorAddress = s.monitorAddress := rfl
@[simp] theorem State.setMem_cpuidLeaf (s : State) (m : Memory) :
    (s.setMem m).cpuidLeaf = s.cpuidLeaf := rfl
@[simp] theorem State.setMem_cpuidSubleaf (s : State) (m : Memory) :
    (s.setMem m).cpuidSubleaf = s.cpuidSubleaf := rfl
@[simp] theorem State.setMem_gpCode (s : State) (m : Memory) :
    (s.setMem m).gpCode = s.gpCode := rfl
@[simp] theorem State.setMem_rangeFits (s : State) (m : Memory) :
    (s.setMem m).rangeFits = s.rangeFits := rfl
@[simp] theorem State.setMem_pcPlus (s : State) (m : Memory) (k : Nat) :
    (s.setMem m).pcPlus k = s.pcPlus k := rfl

/-! ## setMiscEnable -/

@[simp] theorem State.setMiscEnable_eax (s : State) (b : Bool) :
    (s.setMiscEnable b).eax = s.eax := rfl
@[simp] theorem State.setMiscEnable_ebx (s : State) (b : Bool) :
    (s.setMiscEnable b).ebx = s.ebx := rfl
@[simp] theorem State.setMiscEnable_rcx (s : State) (b : Bool) :
    (s.setMiscEnable b).rcx = s.rcx := rfl
@[simp] theorem State.setMiscEnable_edx (s : State) (b : Bool) :
    (s.setMiscEnable b).edx = s.edx := rfl
@[simp] theorem State.setMiscEnable_pc (s : State) (b : Bool) :
    (s.setMiscEnable b).pc = s.pc := rfl
@[simp] theorem State.setMiscEnable_intFlag (s : State) (b : Bool) :
    (s.setMiscEnable b).intFlag = s.intFlag := rfl
@[simp] theorem State.setMiscEnable_cpl (s : State) (b : Bool) :
    (s.setMiscEnable b).cpl = s.cpl := rfl
@[simp] theorem State.setMiscEnable_mode (s : State) (b : Bool) :
    (s.setMiscEnable b).mode = s.mode := rfl
@[simp] theorem State.setMiscEnable_miscEnable (s : State) (b : Bool) :
    (s.setMiscEnable b).miscEnable = b := rfl
@[simp] theorem State.setMiscEnable_monitor (s : State) (b : Bool) :
    (s.setMiscEnable b).monitor = s.monitor := rfl
@[simp] theorem State.setMiscEnable_run (s : State) (b : Bool) :
    (s.setMiscEnable b).run = s.run := rfl
@[simp] theorem State.setMiscEnable_pending (s : State) (b : Bool) :
    (s.setMiscEnable b).pending = s.pending := rfl
@[simp] theorem State.setMiscEnable_mem (s : State) (b : Bool) :
    (s.setMiscEnable b).mem = s.mem := rfl
@[simp] theorem State.setMiscEnable_cfg (s : State) (b : Bool) :
    (s.setMiscEnable b).cfg = s.cfg := rfl
@[simp] theorem State.setMiscEnable_draws (s : State) (b : Bool) :
    (s.setMiscEnable b).draws = s.draws := rfl
@[simp] theorem State.setMiscEnable_agenda (s : State) (b : Bool) :
    (s.setMiscEnable b).agenda = s.agenda := rfl

@[simp] theorem State.setMiscEnable_width (s : State) (b : Bool) :
    (s.setMiscEnable b).width = s.width := rfl
@[simp] theorem State.setMiscEnable_ecx (s : State) (b : Bool) :
    (s.setMiscEnable b).ecx = s.ecx := rfl
@[simp] theorem State.setMiscEnable_ext (s : State) (b : Bool) :
    (s.setMiscEnable b).ext = s.ext := rfl
@[simp] theorem State.setMiscEnable_bitMonitorless (s : State) (b : Bool) :
    (s.setMiscEnable b).bitMonitorless = s.bitMonitorless := rfl
@[simp] theorem State.setMiscEnable_bitIbe (s : State) (b : Bool) :
    (s.setMiscEnable b).bitIbe = s.bitIbe := rfl
@[simp] theorem State.setMiscEnable_bitEmx (s : State) (b : Bool) :
    (s.setMiscEnable b).bitEmx = s.bitEmx := rfl
@[simp] theorem State.setMiscEnable_intDeliverable (s : State) (b : Bool) :
    (s.setMiscEnable b).intDeliverable = s.intDeliverable := rfl
@[simp] theorem State.setMiscEnable_waiting (s : State) (b : Bool) :
    (s.setMiscEnable b).waiting = s.waiting := rfl
@[simp] theorem State.setMiscEnable_monitorArmed (s : State) (b : Bool) :
    (s.setMiscEnable b).monitorArmed = s.monitorArmed := rfl
@[simp] theorem State.setMiscEnable_deliverable (s : State) (b : Bool) :
    (s.setMiscEnable b).deliverable = s.deliverable := rfl
@[simp] theorem State.setMiscEnable_draw (s : State) (b : Bool) :
    (s.setMiscEnable b).draw = s.draw := rfl
@[simp] theorem State.setMiscEnable_monitorAddress (s : State) (b : Bool) :
    (s.setMiscEnable b).monitorAddress = s.monitorAddress := rfl
@[simp] theorem State.setMiscEnable_cpuidLeaf (s : State) (b : Bool) :
    (s.setMiscEnable b).cpuidLeaf = s.cpuidLeaf := rfl
@[simp] theorem State.setMiscEnable_cpuidSubleaf (s : State) (b : Bool) :
    (s.setMiscEnable b).cpuidSubleaf = s.cpuidSubleaf := rfl
@[simp] theorem State.setMiscEnable_gpCode (s : State) (b : Bool) :
    (s.setMiscEnable b).gpCode = s.gpCode := rfl
@[simp] theorem State.setMiscEnable_rangeFits (s : State) (b : Bool) :
    (s.setMiscEnable b).rangeFits = s.rangeFits := rfl
@[simp] theorem State.setMiscEnable_pcPlus (s : State) (b : Bool) (k : Nat) :
    (s.setMiscEnable b).pcPlus k = s.pcPlus k := rfl

/-! ## setAgenda -/

@[simp] theorem State.setAgenda_eax (s : State) (l : List Turn) :
    (s.setAgenda l).eax = s.eax := rfl
@[simp] theorem State.setAgenda_ebx (s : State) (l : List Turn) :
    (s.setAgenda l).ebx = s.ebx := rfl
@[simp] theorem State.setAgenda_rcx (s : State) (l : List Turn) :
    (s.setAgenda l).rcx = s.rcx := rfl
@[simp] theorem State.setAgenda_edx (s : State) (l : List Turn) :
    (s.setAgenda l).edx = s.edx := rfl
@[simp] theorem State.setAgenda_pc (s : State) (l : List Turn) :
    (s.setAgenda l).pc = s.pc := rfl
@[simp] theorem State.setAgenda_intFlag (s : State) (l : List Turn) :
    (s.setAgenda l).intFlag = s.intFlag := rfl
@[simp] theorem State.setAgenda_cpl (s : State) (l : List Turn) :
    (s.setAgenda l).cpl = s.cpl := rfl
@[simp] theorem State.setAgenda_mode (s : State) (l : List Turn) :
    (s.setAgenda l).mode = s.mode := rfl
@[simp] theorem State.setAgenda_miscEnable (s : State) (l : List Turn) :
    (s.setAgenda l).miscEnable = s.miscEnable := rfl
@[simp] theorem State.setAgenda_monitor (s : State) (l : List Turn) :
    (s.setAgenda l).monitor = s.monitor := rfl
@[simp] theorem State.setAgenda_run (s : State) (l : List Turn) :
    (s.setAgenda l).run = s.run := rfl
@[simp] theorem State.setAgenda_pending (s : State) (l : List Turn) :
    (s.setAgenda l).pending = s.pending := rfl
@[simp] theorem State.setAgenda_mem (s : State) (l : List Turn) :
    (s.setAgenda l).mem = s.mem := rfl
@[simp] theorem State.setAgenda_cfg (s : State) (l : List Turn) :
    (s.setAgenda l).cfg = s.cfg := rfl
@[simp] theorem State.setAgenda_draws (s : State) (l : List Turn) :
    (s.setAgenda l).draws = s.draws := rfl
@[simp] theorem State.setAgenda_agenda (s : State) (l : List Turn) :
    (s.setAgenda l).agenda = l := rfl

@[simp] theorem State.setAgenda_width (s : State) (l : List Turn) :
    (s.setAgenda l).width = s.width := rfl
@[simp] theorem State.setAgenda_ecx (s : State) (l : List Turn) :
    (s.setAgenda l).ecx = s.ecx := rfl
@[simp] theorem State.setAgenda_ext (s : State) (l : List Turn) :
    (s.setAgenda l).ext = s.ext := rfl
@[simp] theorem State.setAgenda_bitMonitor (s : State) (l : List Turn) :
    (s.setAgenda l).bitMonitor = s.bitMonitor := rfl
@[simp] theorem State.setAgenda_bitMwait (s : State) (l : List Turn) :
    (s.setAgenda l).bitMwait = s.bitMwait := rfl
@[simp] theorem State.setAgenda_leaf05 (s : State) (l : List Turn) :
    (s.setAgenda l).leaf05 = s.leaf05 := rfl
@[simp] theorem State.setAgenda_bitMonitorless (s : State) (l : List Turn) :
    (s.setAgenda l).bitMonitorless = s.bitMonitorless := rfl
@[simp] theorem State.setAgenda_bitIbe (s : State) (l : List Turn) :
    (s.setAgenda l).bitIbe = s.bitIbe := rfl
@[simp] theorem State.setAgenda_bitEmx (s : State) (l : List Turn) :
    (s.setAgenda l).bitEmx = s.bitEmx := rfl
@[simp] theorem State.setAgenda_intDeliverable (s : State) (l : List Turn) :
    (s.setAgenda l).intDeliverable = s.intDeliverable := rfl
@[simp] theorem State.setAgenda_waiting (s : State) (l : List Turn) :
    (s.setAgenda l).waiting = s.waiting := rfl
@[simp] theorem State.setAgenda_monitorArmed (s : State) (l : List Turn) :
    (s.setAgenda l).monitorArmed = s.monitorArmed := rfl
@[simp] theorem State.setAgenda_deliverable (s : State) (l : List Turn) :
    (s.setAgenda l).deliverable = s.deliverable := rfl
@[simp] theorem State.setAgenda_draw (s : State) (l : List Turn) :
    (s.setAgenda l).draw = s.draw := rfl
@[simp] theorem State.setAgenda_monitorAddress (s : State) (l : List Turn) :
    (s.setAgenda l).monitorAddress = s.monitorAddress := rfl
@[simp] theorem State.setAgenda_cpuidLeaf (s : State) (l : List Turn) :
    (s.setAgenda l).cpuidLeaf = s.cpuidLeaf := rfl
@[simp] theorem State.setAgenda_cpuidSubleaf (s : State) (l : List Turn) :
    (s.setAgenda l).cpuidSubleaf = s.cpuidSubleaf := rfl
@[simp] theorem State.setAgenda_gpCode (s : State) (l : List Turn) :
    (s.setAgenda l).gpCode = s.gpCode := rfl
@[simp] theorem State.setAgenda_rangeFits (s : State) (l : List Turn) :
    (s.setAgenda l).rangeFits = s.rangeFits := rfl
@[simp] theorem State.setAgenda_pcPlus (s : State) (l : List Turn) (k : Nat) :
    (s.setAgenda l).pcPlus k = s.pcPlus k := rfl

/-! ## setCpuid -/

@[simp] theorem State.setCpuid_eax (s : State) (a b : Word32) (c : Word64) (d : Word32) :
    (s.setCpuid a b c d).eax = a := rfl
@[simp] theorem State.setCpuid_ebx (s : State) (a b : Word32) (c : Word64) (d : Word32) :
    (s.setCpuid a b c d).ebx = b := rfl
@[simp] theorem State.setCpuid_rcx (s : State) (a b : Word32) (c : Word64) (d : Word32) :
    (s.setCpuid a b c d).rcx = c := rfl
@[simp] theorem State.setCpuid_edx (s : State) (a b : Word32) (c : Word64) (d : Word32) :
    (s.setCpuid a b c d).edx = d := rfl
@[simp] theorem State.setCpuid_pc (s : State) (a b : Word32) (c : Word64) (d : Word32) :
    (s.setCpuid a b c d).pc = s.pc := rfl
@[simp] theorem State.setCpuid_intFlag (s : State) (a b : Word32) (c : Word64) (d : Word32) :
    (s.setCpuid a b c d).intFlag = s.intFlag := rfl
@[simp] theorem State.setCpuid_cpl (s : State) (a b : Word32) (c : Word64) (d : Word32) :
    (s.setCpuid a b c d).cpl = s.cpl := rfl
@[simp] theorem State.setCpuid_mode (s : State) (a b : Word32) (c : Word64) (d : Word32) :
    (s.setCpuid a b c d).mode = s.mode := rfl
@[simp] theorem State.setCpuid_miscEnable (s : State) (a b : Word32) (c : Word64) (d : Word32) :
    (s.setCpuid a b c d).miscEnable = s.miscEnable := rfl
@[simp] theorem State.setCpuid_monitor (s : State) (a b : Word32) (c : Word64) (d : Word32) :
    (s.setCpuid a b c d).monitor = s.monitor := rfl
@[simp] theorem State.setCpuid_run (s : State) (a b : Word32) (c : Word64) (d : Word32) :
    (s.setCpuid a b c d).run = s.run := rfl
@[simp] theorem State.setCpuid_pending (s : State) (a b : Word32) (c : Word64) (d : Word32) :
    (s.setCpuid a b c d).pending = s.pending := rfl
@[simp] theorem State.setCpuid_mem (s : State) (a b : Word32) (c : Word64) (d : Word32) :
    (s.setCpuid a b c d).mem = s.mem := rfl
@[simp] theorem State.setCpuid_cfg (s : State) (a b : Word32) (c : Word64) (d : Word32) :
    (s.setCpuid a b c d).cfg = s.cfg := rfl
@[simp] theorem State.setCpuid_draws (s : State) (a b : Word32) (c : Word64) (d : Word32) :
    (s.setCpuid a b c d).draws = s.draws := rfl
@[simp] theorem State.setCpuid_agenda (s : State) (a b : Word32) (c : Word64) (d : Word32) :
    (s.setCpuid a b c d).agenda = s.agenda := rfl

@[simp] theorem State.setCpuid_width (s : State) (a b : Word32) (c : Word64) (d : Word32) :
    (s.setCpuid a b c d).width = s.width := rfl
@[simp] theorem State.setCpuid_bitMonitor (s : State) (a b : Word32) (c : Word64) (d : Word32) :
    (s.setCpuid a b c d).bitMonitor = s.bitMonitor := rfl
@[simp] theorem State.setCpuid_bitMwait (s : State) (a b : Word32) (c : Word64) (d : Word32) :
    (s.setCpuid a b c d).bitMwait = s.bitMwait := rfl
@[simp] theorem State.setCpuid_leaf05 (s : State) (a b : Word32) (c : Word64) (d : Word32) :
    (s.setCpuid a b c d).leaf05 = s.leaf05 := rfl
@[simp] theorem State.setCpuid_bitMonitorless (s : State) (a b : Word32) (c : Word64) (d : Word32) :
    (s.setCpuid a b c d).bitMonitorless = s.bitMonitorless := rfl
@[simp] theorem State.setCpuid_bitIbe (s : State) (a b : Word32) (c : Word64) (d : Word32) :
    (s.setCpuid a b c d).bitIbe = s.bitIbe := rfl
@[simp] theorem State.setCpuid_bitEmx (s : State) (a b : Word32) (c : Word64) (d : Word32) :
    (s.setCpuid a b c d).bitEmx = s.bitEmx := rfl
@[simp] theorem State.setCpuid_intDeliverable (s : State) (a b : Word32) (c : Word64) (d : Word32) :
    (s.setCpuid a b c d).intDeliverable = s.intDeliverable := rfl
@[simp] theorem State.setCpuid_waiting (s : State) (a b : Word32) (c : Word64) (d : Word32) :
    (s.setCpuid a b c d).waiting = s.waiting := rfl
@[simp] theorem State.setCpuid_monitorArmed (s : State) (a b : Word32) (c : Word64) (d : Word32) :
    (s.setCpuid a b c d).monitorArmed = s.monitorArmed := rfl
@[simp] theorem State.setCpuid_deliverable (s : State) (a b : Word32) (c : Word64) (d : Word32) :
    (s.setCpuid a b c d).deliverable = s.deliverable := rfl
@[simp] theorem State.setCpuid_draw (s : State) (a b : Word32) (c : Word64) (d : Word32) :
    (s.setCpuid a b c d).draw = s.draw := rfl
@[simp] theorem State.setCpuid_gpCode (s : State) (a b : Word32) (c : Word64) (d : Word32) :
    (s.setCpuid a b c d).gpCode = s.gpCode := rfl
@[simp] theorem State.setCpuid_rangeFits (s : State) (a b : Word32) (c : Word64) (d : Word32) :
    (s.setCpuid a b c d).rangeFits = s.rangeFits := rfl
@[simp] theorem State.setCpuid_pcPlus (s : State) (a b : Word32) (c : Word64) (d : Word32) (k : Nat) :
    (s.setCpuid a b c d).pcPlus k = s.pcPlus k := rfl

/-! ## nextDraw -/

@[simp] theorem State.nextDraw_eax (s : State) :
    s.nextDraw.eax = s.eax := rfl
@[simp] theorem State.nextDraw_ebx (s : State) :
    s.nextDraw.ebx = s.ebx := rfl
@[simp] theorem State.nextDraw_rcx (s : State) :
    s.nextDraw.rcx = s.rcx := rfl
@[simp] theorem State.nextDraw_edx (s : State) :
    s.nextDraw.edx = s.edx := rfl
@[simp] theorem State.nextDraw_pc (s : State) :
    s.nextDraw.pc = s.pc := rfl
@[simp] theorem State.nextDraw_intFlag (s : State) :
    s.nextDraw.intFlag = s.intFlag := rfl
@[simp] theorem State.nextDraw_cpl (s : State) :
    s.nextDraw.cpl = s.cpl := rfl
@[simp] theorem State.nextDraw_mode (s : State) :
    s.nextDraw.mode = s.mode := rfl
@[simp] theorem State.nextDraw_miscEnable (s : State) :
    s.nextDraw.miscEnable = s.miscEnable := rfl
@[simp] theorem State.nextDraw_monitor (s : State) :
    s.nextDraw.monitor = s.monitor := rfl
@[simp] theorem State.nextDraw_run (s : State) :
    s.nextDraw.run = s.run := rfl
@[simp] theorem State.nextDraw_pending (s : State) :
    s.nextDraw.pending = s.pending := rfl
@[simp] theorem State.nextDraw_mem (s : State) :
    s.nextDraw.mem = s.mem := rfl
@[simp] theorem State.nextDraw_cfg (s : State) :
    s.nextDraw.cfg = s.cfg := rfl
@[simp] theorem State.nextDraw_draws (s : State) :
    s.nextDraw.draws = s.draws + 1 := rfl
@[simp] theorem State.nextDraw_agenda (s : State) :
    s.nextDraw.agenda = s.agenda := rfl

@[simp] theorem State.nextDraw_width (s : State) :
    s.nextDraw.width = s.width := rfl
@[simp] theorem State.nextDraw_ecx (s : State) :
    s.nextDraw.ecx = s.ecx := rfl
@[simp] theorem State.nextDraw_ext (s : State) :
    s.nextDraw.ext = s.ext := rfl
@[simp] theorem State.nextDraw_bitMonitor (s : State) :
    s.nextDraw.bitMonitor = s.bitMonitor := rfl
@[simp] theorem State.nextDraw_bitMwait (s : State) :
    s.nextDraw.bitMwait = s.bitMwait := rfl
@[simp] theorem State.nextDraw_leaf05 (s : State) :
    s.nextDraw.leaf05 = s.leaf05 := rfl
@[simp] theorem State.nextDraw_bitMonitorless (s : State) :
    s.nextDraw.bitMonitorless = s.bitMonitorless := rfl
@[simp] theorem State.nextDraw_bitIbe (s : State) :
    s.nextDraw.bitIbe = s.bitIbe := rfl
@[simp] theorem State.nextDraw_bitEmx (s : State) :
    s.nextDraw.bitEmx = s.bitEmx := rfl
@[simp] theorem State.nextDraw_intDeliverable (s : State) :
    s.nextDraw.intDeliverable = s.intDeliverable := rfl
@[simp] theorem State.nextDraw_waiting (s : State) :
    s.nextDraw.waiting = s.waiting := rfl
@[simp] theorem State.nextDraw_monitorArmed (s : State) :
    s.nextDraw.monitorArmed = s.monitorArmed := rfl
@[simp] theorem State.nextDraw_deliverable (s : State) :
    s.nextDraw.deliverable = s.deliverable := rfl
@[simp] theorem State.nextDraw_monitorAddress (s : State) :
    s.nextDraw.monitorAddress = s.monitorAddress := rfl
@[simp] theorem State.nextDraw_cpuidLeaf (s : State) :
    s.nextDraw.cpuidLeaf = s.cpuidLeaf := rfl
@[simp] theorem State.nextDraw_cpuidSubleaf (s : State) :
    s.nextDraw.cpuidSubleaf = s.cpuidSubleaf := rfl
@[simp] theorem State.nextDraw_gpCode (s : State) :
    s.nextDraw.gpCode = s.gpCode := rfl
@[simp] theorem State.nextDraw_rangeFits (s : State) :
    s.nextDraw.rangeFits = s.rangeFits := rfl
@[simp] theorem State.nextDraw_pcPlus (s : State) (k : Nat) :
    s.nextDraw.pcPlus k = s.pcPlus k := rfl

/-! ## advance -/

@[simp] theorem State.advance_eax (s : State) (n : Nat) :
    (s.advance n).eax = s.eax := rfl
@[simp] theorem State.advance_ebx (s : State) (n : Nat) :
    (s.advance n).ebx = s.ebx := rfl
@[simp] theorem State.advance_rcx (s : State) (n : Nat) :
    (s.advance n).rcx = s.rcx := rfl
@[simp] theorem State.advance_edx (s : State) (n : Nat) :
    (s.advance n).edx = s.edx := rfl
@[simp] theorem State.advance_pc (s : State) (n : Nat) :
    (s.advance n).pc = s.pcPlus n := rfl
@[simp] theorem State.advance_intFlag (s : State) (n : Nat) :
    (s.advance n).intFlag = s.intFlag := rfl
@[simp] theorem State.advance_cpl (s : State) (n : Nat) :
    (s.advance n).cpl = s.cpl := rfl
@[simp] theorem State.advance_mode (s : State) (n : Nat) :
    (s.advance n).mode = s.mode := rfl
@[simp] theorem State.advance_miscEnable (s : State) (n : Nat) :
    (s.advance n).miscEnable = s.miscEnable := rfl
@[simp] theorem State.advance_monitor (s : State) (n : Nat) :
    (s.advance n).monitor = s.monitor := rfl
@[simp] theorem State.advance_run (s : State) (n : Nat) :
    (s.advance n).run = s.run := rfl
@[simp] theorem State.advance_pending (s : State) (n : Nat) :
    (s.advance n).pending = s.pending := rfl
@[simp] theorem State.advance_mem (s : State) (n : Nat) :
    (s.advance n).mem = s.mem := rfl
@[simp] theorem State.advance_cfg (s : State) (n : Nat) :
    (s.advance n).cfg = s.cfg := rfl
@[simp] theorem State.advance_draws (s : State) (n : Nat) :
    (s.advance n).draws = s.draws := rfl
@[simp] theorem State.advance_agenda (s : State) (n : Nat) :
    (s.advance n).agenda = s.agenda := rfl

@[simp] theorem State.advance_width (s : State) (n : Nat) :
    (s.advance n).width = s.width := rfl
@[simp] theorem State.advance_ecx (s : State) (n : Nat) :
    (s.advance n).ecx = s.ecx := rfl
@[simp] theorem State.advance_ext (s : State) (n : Nat) :
    (s.advance n).ext = s.ext := rfl
@[simp] theorem State.advance_bitMonitor (s : State) (n : Nat) :
    (s.advance n).bitMonitor = s.bitMonitor := rfl
@[simp] theorem State.advance_bitMwait (s : State) (n : Nat) :
    (s.advance n).bitMwait = s.bitMwait := rfl
@[simp] theorem State.advance_leaf05 (s : State) (n : Nat) :
    (s.advance n).leaf05 = s.leaf05 := rfl
@[simp] theorem State.advance_bitMonitorless (s : State) (n : Nat) :
    (s.advance n).bitMonitorless = s.bitMonitorless := rfl
@[simp] theorem State.advance_bitIbe (s : State) (n : Nat) :
    (s.advance n).bitIbe = s.bitIbe := rfl
@[simp] theorem State.advance_bitEmx (s : State) (n : Nat) :
    (s.advance n).bitEmx = s.bitEmx := rfl
@[simp] theorem State.advance_intDeliverable (s : State) (n : Nat) :
    (s.advance n).intDeliverable = s.intDeliverable := rfl
@[simp] theorem State.advance_waiting (s : State) (n : Nat) :
    (s.advance n).waiting = s.waiting := rfl
@[simp] theorem State.advance_monitorArmed (s : State) (n : Nat) :
    (s.advance n).monitorArmed = s.monitorArmed := rfl
@[simp] theorem State.advance_deliverable (s : State) (n : Nat) :
    (s.advance n).deliverable = s.deliverable := rfl
@[simp] theorem State.advance_draw (s : State) (n : Nat) :
    (s.advance n).draw = s.draw := rfl
@[simp] theorem State.advance_monitorAddress (s : State) (n : Nat) :
    (s.advance n).monitorAddress = s.monitorAddress := rfl
@[simp] theorem State.advance_cpuidLeaf (s : State) (n : Nat) :
    (s.advance n).cpuidLeaf = s.cpuidLeaf := rfl
@[simp] theorem State.advance_cpuidSubleaf (s : State) (n : Nat) :
    (s.advance n).cpuidSubleaf = s.cpuidSubleaf := rfl
@[simp] theorem State.advance_gpCode (s : State) (n : Nat) :
    (s.advance n).gpCode = s.gpCode := rfl
@[simp] theorem State.advance_rangeFits (s : State) (n : Nat) :
    (s.advance n).rangeFits = s.rangeFits := rfl

end Sys2Proof.Machine
end

