-- ==== Sys2Proof/Laws/Cpuid.lean ====
section
/-! SUPPORT. Laws of CPUID's outputs. -/

namespace Sys2Proof.Machine

/-- A bit put into a word reads back, and the other bits read as before. -/
theorem putBit_getLsbD (w : Word32) (i j : Nat) (b : Bool) (hi : i < 32) :
    (putBit w i b).getLsbD j = if j = i then b else w.getLsbD j := by
  have h1 : (1#32 <<< i).getLsbD j = decide (j = i) := by
    rw [BitVec.getLsbD_shiftLeft, BitVec.getLsbD_one]
    by_cases h : j = i
    · subst h; simp [hi]
    · simp [h]; omega
  by_cases hj : j < 32
  · cases b
    · simp only [putBit, Bool.false_eq_true, if_false, BitVec.getLsbD_and, BitVec.getLsbD_not, h1, hj]
      by_cases h : j = i <;> simp [h]
    · simp only [putBit, if_true, BitVec.getLsbD_or, h1]
      by_cases h : j = i <;> simp [h]
  · have hne : ¬ j = i := by omega
    rw [BitVec.getLsbD_of_ge _ _ (by omega), if_neg hne, BitVec.getLsbD_of_ge _ _ (by omega)]

/-- The low half of RCX after CPUID is the ECX output. -/
theorem cpuidResult_ecx (d : Draw) (s : State) : (cpuidResult d s).ecx = cpuidEcx d s := by
  simp only [State.ecx, cpuidResult, State.nextDraw_rcx, State.advance_rcx, State.setCpuid_rcx]
  exact BitVec.setWidth_append_eq_right ..

/-- The ECX output, bit by bit. -/
theorem cpuidEcx_getLsbD (d : Draw) (s : State) (k : Nat) :
    (cpuidEcx d s).getLsbD k =
      if s.eax = 0x01#32 ∧ k = 3 then s.bitMonitor
      else if s.eax = 0x05#32 ∧ s.leaf05 = true ∧ k = 3 then s.bitMonitorless
      else if s.eax = 0x05#32 ∧ s.leaf05 = true ∧ k = 1 then s.bitIbe
      else if s.eax = 0x05#32 ∧ s.leaf05 = true ∧ k = 0 then s.bitEmx
      else d.ecx.getLsbD k := by
  unfold cpuidEcx State.cpuidLeaf
  by_cases h1 : s.eax = 0x01#32
  · simp [h1, putBit_getLsbD]
  · by_cases h5 : s.eax = 0x05#32 <;> cases hl : s.leaf05 <;> simp [h1, h5, putBit_getLsbD]

/-- The EDX output, bit by bit. -/
theorem cpuidEdx_getLsbD (d : Draw) (s : State) (k : Nat) :
    (cpuidEdx d s).getLsbD k =
      if s.eax = 0x07#32 ∧ s.ecx = 0x01#32 ∧ k = 23 then s.bitMwait else d.edx.getLsbD k := by
  unfold cpuidEdx State.cpuidLeaf State.cpuidSubleaf
  by_cases h7 : s.eax = 0x07#32 <;> by_cases h1 : s.ecx = 0x01#32 <;>
    simp [h7, h1, putBit_getLsbD]

/-- The high half of RCX after CPUID is free. -/
theorem cpuidResult_rcxHigh (d : Draw) (s : State) :
    (cpuidResult d s).rcx.extractLsb' 32 32 = d.rcxHigh := by
  simp only [cpuidResult, State.nextDraw_rcx, State.advance_rcx, State.setCpuid_rcx]
  ext k hk
  rw [BitVec.getElem_extractLsb', BitVec.getLsbD_append]
  simp [show ¬ 32 + k < 32 by omega, BitVec.getLsbD_eq_getElem hk]

@[simp] theorem cpuidResult_edx (d : Draw) (s : State) : (cpuidResult d s).edx = cpuidEdx d s := rfl

@[simp] theorem cpuidResult_pc (d : Draw) (s : State) : (cpuidResult d s).pc = s.pcPlus 2 := rfl

end Sys2Proof.Machine
end

