-- ==== Sys2Proof/Laws/Decode.lean ====
section
/-! SUPPORT. Laws of the decoder and of the fetch. -/

namespace Sys2Proof

/-- Everything the decoder can accept: the bytes of one row of the table. -/
theorem decode_ok_cases {bs : List Byte} {i : Instr} {rest : List Byte}
    (h : decode bs = .ok (i, rest)) :
    (i = .mwait ∧ bs = 0x0F#8 :: 0x01#8 :: 0xC9#8 :: rest) ∨
    (i = .monitor ∧ bs = 0x0F#8 :: 0x01#8 :: 0xC8#8 :: rest) ∨
    (i = .cpuid ∧ bs = 0x0F#8 :: 0xA2#8 :: rest) := by
  rcases bs with _ | ⟨a, _ | ⟨b, cs⟩⟩
  · cases h
  · simp only [decode, decodeEscaped] at h; split at h <;> cases h
  · simp only [decode, decodeEscaped] at h
    split at h
    · split at h
      · rcases cs with _ | ⟨c, ds⟩
        · cases h
        · simp only [decodeGroup] at h
          split at h
          · cases h; simp_all
          · split at h <;> cases h; simp_all
      · split at h <;> cases h; simp_all
    · cases h

end Sys2Proof

namespace Sys2Proof.Machine

/-- Fetching bytes that all stand in memory below the limit gives them. -/
theorem fetchBytes_take (m : Memory) (limit : Nat) :
    ∀ (n a : Nat) (bs : List Byte), bs.length ≤ n → a + bs.length ≤ limit →
      (∀ k, k < bs.length → m.read (a + k) = bs[k]?) →
      ∃ rest, (fetchBytes m limit n a).1 = bs ++ rest := by
  intro n
  induction n with
  | zero => intro a bs hn _ _; exact ⟨[], by simp_all [fetchBytes]⟩
  | succ n ih =>
    intro a bs hn hl hb
    cases bs with
    | nil => exact ⟨_, rfl⟩
    | cons b bs =>
      simp only [List.length_cons] at hn hl
      have h0 : m.read a = some b := by simpa using hb 0 (by simp)
      obtain ⟨rest, hr⟩ := ih (a + 1) bs (by omega) (by omega) (fun k hk => by
        have := hb (k + 1) (by simpa using hk)
        simpa [Nat.add_assoc, Nat.add_comm 1 k] using this)
      refine ⟨rest, ?_⟩
      rw [fetchBytes, if_neg (by omega)]
      simp [h0, hr]

/-- Every byte fetched stands in memory below the limit. -/
theorem fetchBytes_mem (m : Memory) (limit : Nat) :
    ∀ (n a k : Nat), k < (fetchBytes m limit n a).1.length →
      a + k < limit ∧ m.read (a + k) = (fetchBytes m limit n a).1[k]? := by
  intro n
  induction n with
  | zero => intro a k h; simp [fetchBytes] at h
  | succ n ih =>
    intro a k h
    rw [fetchBytes] at h ⊢
    split_ifs at h ⊢ with h1
    · simp at h
    · split at h
      · simp at h
      · rename_i b hb
        dsimp only
        cases k with
        | zero => exact ⟨by omega, by simpa using hb⟩
        | succ k =>
          have := ih (a + 1) k (by simpa using h)
          exact ⟨by omega, by simpa [Nat.add_assoc, Nat.add_comm 1 k] using this.2⟩

/-- The fetch answers an instruction exactly when its bytes decode. -/
theorem fetch_next_iff {s : State} {i : Instr} :
    fetch s = .next i ↔ ∃ rest, decode s.bytesAtPc.1 = .ok (i, rest) := by
  unfold fetch
  split
  · rename_i j rest h; rw [h]; simp
  · rename_i h; rw [h]; split <;> simp
  · rename_i h; rw [h]; simp

end Sys2Proof.Machine
end

