-- ==== Sys2Proof/Laws/Memory.lean ====
section
/-! SUPPORT. Laws of memory: a read after a write, and that every write keeps the canonical form. -/

namespace Sys2Proof.Machine

@[simp] theorem Memory.read_nil (x : Nat) : Memory.read [] x = none := rfl

/-- A byte written reads back, and every other address reads as before. -/
theorem Memory.read_writeByte (m : Memory) (x y : Nat) (v : Byte) :
    (m.writeByte x v).read y = if y = x then some v else m.read y := by
  induction m with
  | nil => simp only [Memory.writeByte, Memory.read, eq_comm]
  | cons c rest ih =>
    obtain ⟨a, b⟩ := c
    simp only [Memory.writeByte]
    split_ifs <;> simp only [Memory.read, ih] <;> split_ifs <;> first | rfl | omega

theorem Memory.read_writeByte_same (m : Memory) (x : Nat) (v : Byte) :
    (m.writeByte x v).read x = some v := by simp [Memory.read_writeByte]

theorem Memory.read_writeByte_other (m : Memory) {x y : Nat} (v : Byte) (h : y ≠ x) :
    (m.writeByte x v).read y = m.read y := by simp [Memory.read_writeByte, h]

/-- Outside the bytes stored, memory reads as before. -/
theorem Memory.read_writeBytes_outside (vs : List Byte) :
    ∀ (m : Memory) (x y : Nat), (y < x ∨ x + vs.length ≤ y) →
      (m.writeBytes x vs).read y = m.read y := by
  induction vs with
  | nil => intro m x y _; rfl
  | cons v vs ih =>
    intro m x y h
    simp only [List.length_cons] at h
    rw [Memory.writeBytes, ih _ _ _ (by omega), Memory.read_writeByte_other _ _ (by omega)]

/-- The bytes stored read back. -/
theorem Memory.read_writeBytes_inside (vs : List Byte) :
    ∀ (m : Memory) (x k : Nat), k < vs.length → (m.writeBytes x vs).read (x + k) = vs[k]? := by
  induction vs with
  | nil => intro m x k h; simp at h
  | cons v vs ih =>
    intro m x k h
    rw [Memory.writeBytes]
    cases k with
    | zero =>
      rw [Memory.read_writeBytes_outside _ _ _ _ (by omega)]
      simp [Memory.read_writeByte]
    | succ k =>
      have := ih (m.writeByte x v) (x + 1) k (by simpa using h)
      simpa [Nat.add_assoc, Nat.add_comm 1 k] using this

/-- The first address of a non-empty memory that is written stays at or above a lower bound. -/
theorem Memory.wf_cons_writeByte (m : Memory) :
    ∀ (a x : Nat) (b v : Byte), Memory.wf ((a, b) :: m) = true → a < x →
      Memory.wf ((a, b) :: m.writeByte x v) = true := by
  induction m with
  | nil => intro a x b v _ h; simp [Memory.writeByte, Memory.wf, h]
  | cons c rest ih =>
    obtain ⟨a', b'⟩ := c
    intro a x b v hwf h
    simp only [Memory.wf, Bool.and_eq_true, decide_eq_true_eq] at hwf
    simp only [Memory.writeByte]
    split_ifs with h1 h2
    · simp [Memory.wf, h, h1, hwf.2]
    · subst h2
      cases rest with
      | nil => simp [Memory.wf, hwf.1]
      | cons d rest => simpa [Memory.wf, hwf.1] using hwf.2
    · simp only [Memory.wf, Bool.and_eq_true, decide_eq_true_eq]
      exact ⟨hwf.1, ih a' x b' v hwf.2 (by omega)⟩

/-- Writing a byte keeps the canonical form. -/
theorem Memory.wf_writeByte (m : Memory) (x : Nat) (v : Byte) (h : m.wf = true) :
    (m.writeByte x v).wf = true := by
  cases m with
  | nil => rfl
  | cons c rest =>
    obtain ⟨a, b⟩ := c
    simp only [Memory.writeByte]
    split_ifs with h1 h2
    · simp [Memory.wf, h1, h]
    · subst h2
      cases rest with
      | nil => rfl
      | cons d rest => simpa [Memory.wf] using h
    · exact Memory.wf_cons_writeByte rest a x b v h (by omega)

/-- Writing bytes keeps the canonical form. -/
theorem Memory.wf_writeBytes (vs : List Byte) :
    ∀ (m : Memory) (x : Nat), m.wf = true → (m.writeBytes x vs).wf = true := by
  induction vs with
  | nil => intro m x h; exact h
  | cons v vs ih => intro m x h; exact ih _ _ (Memory.wf_writeByte m x v h)

end Sys2Proof.Machine
end

