-- ==== Sys2Proof/Laws/Monitor.lean ====
section
/-! SUPPORT. Laws of the monitor hardware, of MONITOR and of an agent's store. -/

namespace Sys2Proof.Machine

/-- Two intervals overlap when some address is in both. -/
theorem Range.overlaps_iff (r : Range) (a n : Nat) :
    r.overlaps a n = true ↔ ∃ x, r.contains x = true ∧ a ≤ x ∧ x < a + n := by
  simp only [Range.overlaps, Range.contains, decide_eq_true_eq]
  constructor
  · intro h; exact ⟨max a r.base, by omega⟩
  · rintro ⟨x, h⟩; omega

/-- A hit in the source's words is an overlap. -/
theorem Range.hit_iff (r : Range) (a n : Nat) : r.Hit a n ↔ r.overlaps a n = true := by
  rw [Range.overlaps_iff]
  simp [Range.Hit, Range.contains, and_assoc]

/-- The drawn range contains the address given. -/
theorem drawnRange_contains (d : Draw) {size : Nat} (a : Nat) (h : 0 < size) :
    (drawnRange d size a).contains a = true := by
  have h1 : d.placement % min size (a + 1) < min size (a + 1) := Nat.mod_lt _ (by omega)
  have h2 : d.placement % min size (a + 1) < size := lt_of_lt_of_le h1 (Nat.min_le_left ..)
  refine decide_eq_true ⟨Nat.sub_le .., ?_⟩
  change a < a - d.placement % min size (a + 1) + size
  omega

/-- Every placement is drawn by some free value. -/
theorem drawnRange_surjective (d : Draw) {size a base : Nat} (h1 : base ≤ a) (h2 : a < base + size) :
    drawnRange { d with placement := a - base } size a = ⟨base, size⟩ := by
  have : (a - base) % min size (a + 1) = a - base := Nat.mod_eq_of_lt (by omega)
  simp only [drawnRange, this, Range.mk.injEq, and_true]
  omega

/-- Everything arming can do. -/
theorem armedMonitor_cases (d : Draw) (s : State) :
    armedMonitor d s = .idle ∨
      ∃ r, armedMonitor d s = .armed r ∧ r.size = s.cfg.rangeSize ∧ 0 < r.size ∧
        r.contains s.monitorAddress = true := by
  unfold armedMonitor
  split_ifs with h
  · simp only [Bool.and_eq_true, decide_eq_true_eq] at h
    exact .inr ⟨_, rfl, rfl, h.2, drawnRange_contains d _ h.2⟩
  · exact .inl rfl

/-- Everything MONITOR can do. -/
theorem execMonitor_eq (s : State) :
    execMonitor s =
      if s.miscEnable = true ∧ s.cfg.monitorHw = true then .next (monitorResult s.draw s)
      else .fault (.invalidOpcode s) := by
  by_cases h : s.miscEnable = true ∧ s.cfg.monitorHw = true
  · simp [execMonitor, monitorInvalid, State.bitMonitor, h]
  · rw [if_neg h]
    have : monitorInvalid s = true := by
      simp only [monitorInvalid, State.bitMonitor]
      revert h
      cases s.miscEnable <;> cases s.cfg.monitorHw <;> simp
    simp [execMonitor, this, raiseInvalidOpcode]

/-- Everything a store can do to the monitor. -/
theorem storeMonitor_cases (d : Draw) (waiting : Bool) (g : Agent) (a n : Nat) (m : Monitor) :
    storeMonitor d waiting g a n m = m ∨
      (storeMonitor d waiting g a n m = .triggered ∧ ∃ r, m = .armed r ∧ r.overlaps a n = true) := by
  cases m with
  | idle => exact .inl rfl
  | triggered => exact .inl rfl
  | armed r =>
    simp only [storeMonitor]
    split_ifs with h1 <;> simp [h1]

/-- A store to the armed range triggers it, unless a non-processor agent makes it during a wait. -/
theorem storeMonitor_hit {d : Draw} {waiting : Bool} {g : Agent} {a n : Nat} {r : Range}
    (h : r.overlaps a n = true) (hg : waiting = false ∨ g ≠ .nonProcessor) :
    storeMonitor d waiting g a n (.armed r) = .triggered := by
  have hw : (waiting && g == Agent.nonProcessor) = false := by
    rcases hg with rfl | hg
    · rfl
    · simp [hg]
  simp [storeMonitor, h, hw]

end Sys2Proof.Machine
end

