-- ==== Sys2Proof/Laws/Mwait.lean ====
section
/-! SUPPORT. Laws of MWAIT: the checks in the source's words, and everything the issue and the wake can
do. -/

namespace Sys2Proof.Machine

theorem State.ext_bit0 (s : State) : s.ext.getLsbD 0 = s.ecx.getLsbD 0 := by
  unfold State.ext State.ecx; split <;> simp

@[simp] theorem State.ext_getElem0 (s : State) : s.ext[0] = s.ecx[0] := by
  simpa using s.ext_bit0

theorem State.ext_bit1 (s : State) : s.ext.getLsbD 1 = s.ecx.getLsbD 1 := by
  unfold State.ext State.ecx; split <;> simp

@[simp] theorem State.ext_getElem1 (s : State) : s.ext[1] = s.ecx[1] := by
  simpa using s.ext_bit1

theorem State.ext_bit2 (s : State) : s.ext.getLsbD 2 = s.ecx.getLsbD 2 := by
  unfold State.ext State.ecx; split <;> simp

@[simp] theorem State.ext_getElem2 (s : State) : s.ext[2] = s.ecx[2] := by
  simpa using s.ext_bit2

/-- Bits 63:3 are clear exactly when the number is below 8. -/
theorem shiftRight3_eq_zero (e : Word64) : e >>> 3 = 0#64 ↔ e.toNat < 8 := by
  rw [← BitVec.toNat_inj]; simp [Nat.shiftRight_eq_div_pow]

/-- No reserved extension bit is set exactly for 0, 1, 4 and 5 (41_mwait.md R62). -/
theorem extReserved_false_iff (e : Word64) :
    extReserved e = false ↔ e = 0 ∨ e = 1 ∨ e = 4 ∨ e = 5 := by
  simp only [extReserved, Bool.or_eq_false_iff, bne_eq_false_iff_eq]
  rw [show (0 : Word64) = 0#64 from rfl, shiftRight3_eq_zero]
  constructor
  · rintro ⟨h, h1⟩
    have he : e = BitVec.ofNat 64 e.toNat := by simp
    generalize e.toNat = n at h he
    subst he
    interval_cases n <;> simp_all
  · rintro (rfl | rfl | rfl | rfl) <;> decide

/-- The reserved bits in the source's words: 63:3 of RCX in 64-bit mode, 31:3 of ECX elsewhere. -/
theorem gpReserved_iff (s : State) : gpReserved s = true ↔ s.GpReservedBits := by
  have h64 : ∀ e : Word64, e >>> 3 = 0#64 ↔ e.extractLsb' 3 61 = 0#61 := fun e => by
    rw [shiftRight3_eq_zero, ← BitVec.toNat_inj]
    simp [BitVec.extractLsb'_toNat, Nat.shiftRight_eq_div_pow]
    omega
  have h32 : ∀ c : Word32, (c.setWidth 64 : Word64) >>> 3 = 0#64 ↔ c.extractLsb' 3 29 = 0#29 := fun c => by
    rw [shiftRight3_eq_zero, ← BitVec.toNat_inj]
    simp [BitVec.extractLsb'_toNat, Nat.shiftRight_eq_div_pow]
    omega
  simp only [gpReserved, extReserved, State.GpReservedBits, Bool.or_eq_true, bne_iff_ne,
    State.ext_bit1, ne_eq]
  unfold State.ext
  split_ifs with h
  · simp [h, h64]
  · simp [h, h32]

/-- The #UD check in the source's words (41_mwait.md R61). -/
theorem mwaitInvalid_iff (s : State) : mwaitInvalid s = true ↔ s.UdCondition := by
  simp only [mwaitInvalid, State.UdCondition, Bool.or_eq_true, Bool.and_eq_true, beq_iff_eq,
    bne_iff_ne, Bool.not_eq_true']
  tauto

/-- Leaf 05H is supported where no #UD condition holds. -/
theorem leaf05_of_not_ud {s : State} (h : ¬ s.UdCondition) : s.leaf05 = true := by
  simp only [State.UdCondition, not_or, not_and, Bool.not_eq_false] at h
  simp only [State.leaf05, Bool.or_eq_true]
  by_cases hm : s.bitMonitor = false
  · exact .inr (h.2.1 hm)
  · exact .inl (by simpa using hm)

/-- The #GP check is the well-defined #GP condition, in every state (41_mwait.md R62, D12). -/
theorem mwaitProtected_iff_wellDefined (s : State) :
    mwaitProtected s = true ↔ s.GpWellDefined := by
  simp only [mwaitProtected, State.GpWellDefined, Bool.or_eq_true, gpReserved_iff, gpMaskedBreaks,
    gpMonitorless, gpMonitored, extMaskedBreaks, extMonitorless, State.ext_bit0, State.ext_bit2,
    Bool.and_eq_true, Bool.not_eq_true']
  tauto

/-- What is well defined is a condition of R62. -/
theorem State.gpCondition_of_wellDefined {s : State} (h : s.GpWellDefined) : s.GpCondition := by
  unfold State.GpWellDefined State.GpCondition at *
  tauto

/-- Where leaf 05H is supported every condition of R62 is well defined. -/
theorem State.gpWellDefined_iff {s : State} (h : s.leaf05 = true) :
    s.GpWellDefined ↔ s.GpCondition := by
  unfold State.GpWellDefined State.GpCondition
  tauto

/-- Without leaf 05H only G1 and G4 are well defined (D12). -/
theorem State.gpWellDefined_iff_of_no_leaf {s : State} (h : s.leaf05 = false) :
    s.GpWellDefined ↔ s.GpReservedBits ∨ (s.ecx.getLsbD 2 = false ∧ s.bitMonitor = false) := by
  simp [State.GpWellDefined, h]

/-- The #GP check in the source's words, where leaf 05H is supported (41_mwait.md R62). -/
theorem mwaitProtected_iff {s : State} (h : s.leaf05 = true) :
    mwaitProtected s = true ↔ s.GpCondition := by
  rw [mwaitProtected_iff_wellDefined, State.gpWellDefined_iff h]

/-- MWAIT's two checks have passed. -/
theorem mwaitFault_none_iff (d : Draw) (s : State) : mwaitFault d s = none ↔ s.MwaitPasses := by
  unfold mwaitFault State.MwaitPasses
  by_cases hu : mwaitInvalid s = true
  · simp only [hu, if_true, (mwaitInvalid_iff s).mp hu, not_true, false_and, iff_false]
    split <;> simp
  · have hn : ¬ s.UdCondition := fun h => hu ((mwaitInvalid_iff s).mpr h)
    simp only [hu, hn, not_false_iff, true_and, ← mwaitProtected_iff (leaf05_of_not_ud hn)]
    by_cases hp : mwaitProtected s = true <;> simp [hp]

/-- MWAIT answers a next state exactly when its checks pass. -/
theorem mwaitWith_passes (d : Draw) {s : State} (h : s.MwaitPasses) :
    mwaitWith d s = .next (mwaitIssue d s) := by
  simp [mwaitWith, (mwaitFault_none_iff d s).mpr h]

/-- What a next state of MWAIT tells. -/
theorem mwaitWith_next {d : Draw} {s t : State} (h : mwaitWith d s = .next t) :
    s.MwaitPasses ∧ t = mwaitIssue d s := by
  unfold mwaitWith at h
  split at h
  · cases h
  · rename_i hf; cases h; exact ⟨(mwaitFault_none_iff d s).mp hf, rfl⟩

/-- Everything the issue transition can do (41_mwait.md R66, R73, R75). -/
theorem mwaitIssue_cases (d : Draw) (s : State) :
    (mwaitCanWait s = true ∧ d.enter = true ∧
      mwaitIssue d s = ((s.setRun (.optimized s.eax s.ext)).advance 3).nextDraw) ∨
    ((mwaitCanWait s = false ∨ d.enter = false) ∧
      mwaitIssue d s =
        ((s.setMonitor (completedMonitor d s.ext s.monitor)).advance 3).nextDraw) := by
  unfold mwaitIssue mwaitComplete
  cases hc : mwaitCanWait s <;> cases he : d.enter <;> simp

/-- Everything a waiting processor's turn can do (41_mwait.md R69 to R71). -/
theorem waitTurn_cases (d : Draw) (e : Word64) (s : State) :
    waitTurn d e s = mwaitWake d e s ∨ (namedBreak e s = false ∧ d.wake = false ∧
      waitTurn d e s = s.nextDraw) := by
  unfold waitTurn
  cases namedBreak e s <;> cases d.wake <;> simp

/-- Completion leaves the monitor as it was or triggered; triggered for certain in the monitored
form (41_mwait.md R73). -/
theorem completedMonitor_cases (d : Draw) (e : Word64) (m : Monitor) :
    completedMonitor d e m = .triggered ∨ (extMonitorless e = true ∧ completedMonitor d e m = m) := by
  unfold completedMonitor
  cases extMonitorless e <;> cases d.trigger <;> simp

/-- The monitor hardware is armed exactly when it holds a range. -/
theorem State.monitorArmed_iff (s : State) : s.monitorArmed = true ↔ ∃ r, s.monitor = .armed r := by
  unfold State.monitorArmed; cases s.monitor <;> simp

/-- MWAIT can wait exactly when it is monitorless or the monitor is armed (41_mwait.md R64, R65). -/
theorem mwaitCanWait_iff (s : State) :
    mwaitCanWait s = true ↔ s.ecx.getLsbD 2 = true ∨ ∃ r, s.monitor = .armed r := by
  simp only [mwaitCanWait, Bool.or_eq_true, State.monitorArmed_iff, extMonitorless, State.ext_bit2]

/-- The named disjuncts of `Break` in the source's words (41_mwait.md R69, R70). -/
theorem namedBreak_iff (s : State) (e : Word64) : namedBreak e s = true ↔ s.BreakEvent e := by
  simp only [namedBreak, storeBreaks, extIntBreaks, extMonitorless, extMaskedBreaks,
    State.BreakEvent, Bool.or_eq_true, Bool.and_eq_true, decide_eq_true_eq, Bool.not_eq_true']
  tauto

/-- When #GP may be reported in place of #UD (60_exceptions.md R93, D1, D12). -/
theorem mwaitReportsGp_iff (d : Draw) (s : State) :
    mwaitReportsGp d s = true ↔ s.cfg.faultPriority = .either ∧ s.mode ≠ .v8086
      ∧ s.GpWellDefined ∧ d.reportGp = true := by
  simp only [mwaitReportsGp, Bool.and_eq_true, beq_iff_eq, bne_iff_ne,
    mwaitProtected_iff_wellDefined, and_assoc]

/-- What MWAIT reports where a #UD condition holds (60_exceptions.md R93). -/
theorem mwaitWith_of_ud (d : Draw) {s : State} (h : s.UdCondition) :
    mwaitWith d s = if mwaitReportsGp d s then .fault (.generalProtection s.gpCode s)
      else .fault (.invalidOpcode s) := by
  simp only [mwaitWith, mwaitFault, (mwaitInvalid_iff s).mpr h, if_true]
  split_ifs <;> rfl

/-- What MWAIT reports where only a #GP condition holds (41_mwait.md R62). -/
theorem mwaitWith_of_gp (d : Draw) {s : State} (hu : ¬ s.UdCondition) (hg : s.GpCondition) :
    mwaitWith d s = .fault (.generalProtection s.gpCode s) := by
  have h1 : mwaitInvalid s = false := by rw [← Bool.not_eq_true, mwaitInvalid_iff]; exact hu
  simp [mwaitWith, mwaitFault, h1, (mwaitProtected_iff (leaf05_of_not_ud hu)).mpr hg,
    raiseGeneralProtection, State.gpCode]

/-- MWAIT faults alike in two states in which its checks give the same. -/
theorem mwaitWith_fault_congr (d : Draw) {s t : State} (h1 : mwaitInvalid t = mwaitInvalid s)
    (h2 : mwaitProtected t = mwaitProtected s) (h3 : t.mode = s.mode) (h4 : t.cfg = s.cfg) :
    (mwaitWith d s = .fault (.invalidOpcode s) → mwaitWith d t = .fault (.invalidOpcode t))
      ∧ (∀ c, mwaitWith d s = .fault (.generalProtection c s) →
          mwaitWith d t = .fault (.generalProtection c t)) := by
  have h5 : mwaitReportsGp d t = mwaitReportsGp d s := by simp only [mwaitReportsGp, h2, h3, h4]
  simp only [mwaitWith, mwaitFault, raiseGeneralProtection, raiseInvalidOpcode, h1, h2, h3, h5]
  split_ifs <;> simp

/-- MWAIT's checks read only RCX, the mode, the privilege level, bit 18 and the configuration. -/
theorem State.mwaitPasses_congr {s t : State} (h1 : t.rcx = s.rcx) (h2 : t.mode = s.mode)
    (h3 : t.cpl = s.cpl) (h4 : t.miscEnable = s.miscEnable) (h5 : t.cfg = s.cfg) :
    t.MwaitPasses ↔ s.MwaitPasses := by
  simp only [State.MwaitPasses, State.UdCondition, State.GpCondition, State.GpReservedBits,
    State.bitMonitor, State.bitMwait, State.bitIbe, State.bitMonitorless, State.ecx, h1, h2, h3, h4, h5]

/-- The extensions are read from RCX, as the mode says. -/
theorem State.ext_congr {s t : State} (h1 : t.rcx = s.rcx) (h2 : t.mode = s.mode) :
    t.ext = s.ext := by unfold State.ext State.ecx; rw [h1, h2]

end Sys2Proof.Machine
end

