-- ==== Sys2Proof/Laws/Pending.lean ====
section
/-! SUPPORT. Laws of the set of pending events and of the instruction boundary. -/

namespace Sys2Proof.Machine

/-- Setting one kind leaves every other kind as it was. -/
theorem Pending.has_set (p : Pending) (b : Bool) (k j : EventKind) :
    (p.set b k).has j = if j = k then b else p.has j := by
  cases k <;> cases j <;> rfl

theorem mem_allEventKinds (k : EventKind) : k ∈ allEventKinds := by cases k <;> decide

/-- An event is deliverable when it is pending and not masked. -/
theorem State.mem_deliverable (s : State) (k : EventKind) :
    k ∈ s.deliverable ↔ s.pending.has k = true ∧ s.masked k = false := by
  simp [State.deliverable, mem_allEventKinds]

@[simp] theorem State.deliverable_of_none (s : State) (h : s.pending = .none) :
    s.deliverable = [] := by
  simp [State.deliverable, List.filter_eq_nil_iff, h, Pending.none]
  intro k _; cases k <;> simp [Pending.has]

/-- A picked element is one of the list. -/
theorem pick_mem (n : Nat) (k : EventKind) (ks : List EventKind) : pick n k ks ∈ k :: ks := by
  have h : n % (ks.length + 1) < (k :: ks).length := Nat.mod_lt _ (by simp)
  rw [pick, List.getD_eq_getElem _ _ h]
  exact List.getElem_mem h

/-- Everything the boundary can deliver: a pending event that is not masked. -/
theorem boundaryEvent_some {d : Draw} {s : State} {k : EventKind} (h : boundaryEvent d s = some k) :
    s.pending.has k = true ∧ s.masked k = false := by
  rw [← State.mem_deliverable]
  unfold boundaryEvent at h
  split at h
  · cases h
  · rename_i heq
    split at h
    · cases h; rw [heq]; exact pick_mem _ _ _
    · cases h

/-- With nothing deliverable nothing is delivered. -/
theorem boundaryEvent_nil {d : Draw} {s : State} (h : s.deliverable = []) :
    boundaryEvent d s = none := by simp [boundaryEvent, h]

/-- A deliverable event that leaves the scope forces a delivery (D26). -/
theorem boundaryEvent_forced {d : Draw} {s : State} {k : EventKind} (hk : k ∈ s.deliverable)
    (hl : leavesScope k = true) : ∃ j, boundaryEvent d s = some j := by
  unfold boundaryEvent
  split
  · rename_i heq; rw [heq] at hk; cases hk
  · rename_i j js heq
    rw [heq] at hk
    have : (j :: js).any leavesScope = true := List.any_eq_true.mpr ⟨k, hk, hl⟩
    exact ⟨_, by rw [this]; rfl⟩

/-- The boundary changes at most the counter of draws. -/
theorem afterBoundary_eq (s : State) : afterBoundary s = s ∨ afterBoundary s = s.nextDraw := by
  unfold afterBoundary; split <;> simp

/-- Of one event, that one is picked. -/
theorem pick_singleton (n : Nat) (k : EventKind) : pick n k [] = k := by
  simp [pick, Nat.mod_one]

/-- The only deliverable event is delivered for certain where it leaves the scope. -/
theorem boundaryEvent_single {d : Draw} {s : State} {k : EventKind} (h : s.deliverable = [k])
    (hl : leavesScope k = true) : boundaryEvent d s = some k := by
  simp [boundaryEvent, h, hl, pick_singleton]

/-- The only deliverable event is not delivered where it need not be and the draw says no. -/
theorem boundaryEvent_withheld {d : Draw} {s : State} {k : EventKind} (h : s.deliverable = [k])
    (hl : leavesScope k = false) (hd : d.deliver = false) : boundaryEvent d s = none := by
  simp [boundaryEvent, h, hl, hd]

end Sys2Proof.Machine
end

