-- ==== Sys2Proof/Laws/PerInstr.lean ====
section
/-! SUPPORT. The family Encoding: what is said of every instruction as syntax, one lemma per
constructor. -/

namespace Sys2Proof.Laws.Encoding

/-- The instruction is well formed, is no longer than the longest instruction, and no proper prefix
of its bytes decodes. -/
def Statement (i : Instr) : Prop :=
  i.wellFormed = true ∧ 0 < i.length ∧ i.length ≤ maxLength ∧
    ∀ n, n < i.length → decode ((encode i).take n) = .error .truncated

theorem mwait : Statement .mwait := by
  refine ⟨rfl, by decide, by decide, fun n hn => ?_⟩
  change n < 3 at hn
  interval_cases n <;> rfl

theorem monitor : Statement .monitor := by
  refine ⟨rfl, by decide, by decide, fun n hn => ?_⟩
  change n < 3 at hn
  interval_cases n <;> rfl

theorem cpuid : Statement .cpuid := by
  refine ⟨rfl, by decide, by decide, fun n hn => ?_⟩
  change n < 2 at hn
  interval_cases n <;> rfl

end Sys2Proof.Laws.Encoding
end

