-- ==== Sys2Proof/Laws/Results.lean ====
section
/-! SUPPORT. What each result of an instruction, a wait, a wake, a store or a write of bit 18 leaves as it was,
field by field: the frames, cited by simp. -/

namespace Sys2Proof.Machine

/-! ## A store by an agent -/

@[simp] theorem agentStore_eax (d : Draw) (g : Agent) (a : Nat) (bs : List Byte) (s : State) :
    (agentStore d g a bs s).eax = s.eax := rfl
@[simp] theorem agentStore_ebx (d : Draw) (g : Agent) (a : Nat) (bs : List Byte) (s : State) :
    (agentStore d g a bs s).ebx = s.ebx := rfl
@[simp] theorem agentStore_rcx (d : Draw) (g : Agent) (a : Nat) (bs : List Byte) (s : State) :
    (agentStore d g a bs s).rcx = s.rcx := rfl
@[simp] theorem agentStore_edx (d : Draw) (g : Agent) (a : Nat) (bs : List Byte) (s : State) :
    (agentStore d g a bs s).edx = s.edx := rfl
@[simp] theorem agentStore_pc (d : Draw) (g : Agent) (a : Nat) (bs : List Byte) (s : State) :
    (agentStore d g a bs s).pc = s.pc := rfl
@[simp] theorem agentStore_intFlag (d : Draw) (g : Agent) (a : Nat) (bs : List Byte) (s : State) :
    (agentStore d g a bs s).intFlag = s.intFlag := rfl
@[simp] theorem agentStore_cpl (d : Draw) (g : Agent) (a : Nat) (bs : List Byte) (s : State) :
    (agentStore d g a bs s).cpl = s.cpl := rfl
@[simp] theorem agentStore_mode (d : Draw) (g : Agent) (a : Nat) (bs : List Byte) (s : State) :
    (agentStore d g a bs s).mode = s.mode := rfl
@[simp] theorem agentStore_miscEnable (d : Draw) (g : Agent) (a : Nat) (bs : List Byte) (s : State) :
    (agentStore d g a bs s).miscEnable = s.miscEnable := rfl
@[simp] theorem agentStore_monitor (d : Draw) (g : Agent) (a : Nat) (bs : List Byte) (s : State) :
    (agentStore d g a bs s).monitor = storeMonitor d s.waiting g a bs.length s.monitor := rfl
@[simp] theorem agentStore_run (d : Draw) (g : Agent) (a : Nat) (bs : List Byte) (s : State) :
    (agentStore d g a bs s).run = s.run := rfl
@[simp] theorem agentStore_pending (d : Draw) (g : Agent) (a : Nat) (bs : List Byte) (s : State) :
    (agentStore d g a bs s).pending = s.pending := rfl
@[simp] theorem agentStore_mem (d : Draw) (g : Agent) (a : Nat) (bs : List Byte) (s : State) :
    (agentStore d g a bs s).mem = s.mem.writeBytes a bs := rfl
@[simp] theorem agentStore_cfg (d : Draw) (g : Agent) (a : Nat) (bs : List Byte) (s : State) :
    (agentStore d g a bs s).cfg = s.cfg := rfl
@[simp] theorem agentStore_draws (d : Draw) (g : Agent) (a : Nat) (bs : List Byte) (s : State) :
    (agentStore d g a bs s).draws = s.draws + 1 := rfl
@[simp] theorem agentStore_agenda (d : Draw) (g : Agent) (a : Nat) (bs : List Byte) (s : State) :
    (agentStore d g a bs s).agenda = s.agenda := rfl

/-! ## MONITOR -/

@[simp] theorem monitorResult_eax (d : Draw) (s : State) :
    (monitorResult d s).eax = s.eax := rfl
@[simp] theorem monitorResult_ebx (d : Draw) (s : State) :
    (monitorResult d s).ebx = s.ebx := rfl
@[simp] theorem monitorResult_rcx (d : Draw) (s : State) :
    (monitorResult d s).rcx = s.rcx := rfl
@[simp] theorem monitorResult_edx (d : Draw) (s : State) :
    (monitorResult d s).edx = s.edx := rfl
@[simp] theorem monitorResult_pc (d : Draw) (s : State) :
    (monitorResult d s).pc = s.pcPlus 3 := rfl
@[simp] theorem monitorResult_intFlag (d : Draw) (s : State) :
    (monitorResult d s).intFlag = s.intFlag := rfl
@[simp] theorem monitorResult_cpl (d : Draw) (s : State) :
    (monitorResult d s).cpl = s.cpl := rfl
@[simp] theorem monitorResult_mode (d : Draw) (s : State) :
    (monitorResult d s).mode = s.mode := rfl
@[simp] theorem monitorResult_miscEnable (d : Draw) (s : State) :
    (monitorResult d s).miscEnable = s.miscEnable := rfl
@[simp] theorem monitorResult_monitor (d : Draw) (s : State) :
    (monitorResult d s).monitor = armedMonitor d s := rfl
@[simp] theorem monitorResult_run (d : Draw) (s : State) :
    (monitorResult d s).run = s.run := rfl
@[simp] theorem monitorResult_pending (d : Draw) (s : State) :
    (monitorResult d s).pending = s.pending := rfl
@[simp] theorem monitorResult_mem (d : Draw) (s : State) :
    (monitorResult d s).mem = s.mem := rfl
@[simp] theorem monitorResult_cfg (d : Draw) (s : State) :
    (monitorResult d s).cfg = s.cfg := rfl
@[simp] theorem monitorResult_draws (d : Draw) (s : State) :
    (monitorResult d s).draws = s.draws + 1 := rfl
@[simp] theorem monitorResult_agenda (d : Draw) (s : State) :
    (monitorResult d s).agenda = s.agenda := rfl

/-! ## CPUID (its other outputs stand in Laws/Cpuid.lean) -/

@[simp] theorem cpuidResult_eax (d : Draw) (s : State) :
    (cpuidResult d s).eax = d.eax := rfl
@[simp] theorem cpuidResult_ebx (d : Draw) (s : State) :
    (cpuidResult d s).ebx = d.ebx := rfl
@[simp] theorem cpuidResult_intFlag (d : Draw) (s : State) :
    (cpuidResult d s).intFlag = s.intFlag := rfl
@[simp] theorem cpuidResult_cpl (d : Draw) (s : State) :
    (cpuidResult d s).cpl = s.cpl := rfl
@[simp] theorem cpuidResult_mode (d : Draw) (s : State) :
    (cpuidResult d s).mode = s.mode := rfl
@[simp] theorem cpuidResult_miscEnable (d : Draw) (s : State) :
    (cpuidResult d s).miscEnable = s.miscEnable := rfl
@[simp] theorem cpuidResult_monitor (d : Draw) (s : State) :
    (cpuidResult d s).monitor = s.monitor := rfl
@[simp] theorem cpuidResult_run (d : Draw) (s : State) :
    (cpuidResult d s).run = s.run := rfl
@[simp] theorem cpuidResult_pending (d : Draw) (s : State) :
    (cpuidResult d s).pending = s.pending := rfl
@[simp] theorem cpuidResult_mem (d : Draw) (s : State) :
    (cpuidResult d s).mem = s.mem := rfl
@[simp] theorem cpuidResult_cfg (d : Draw) (s : State) :
    (cpuidResult d s).cfg = s.cfg := rfl
@[simp] theorem cpuidResult_draws (d : Draw) (s : State) :
    (cpuidResult d s).draws = s.draws + 1 := rfl
@[simp] theorem cpuidResult_agenda (d : Draw) (s : State) :
    (cpuidResult d s).agenda = s.agenda := rfl

/-! ## The wake -/

@[simp] theorem mwaitWake_eax (d : Draw) (e : Word64) (s : State) :
    (mwaitWake d e s).eax = s.eax := rfl
@[simp] theorem mwaitWake_ebx (d : Draw) (e : Word64) (s : State) :
    (mwaitWake d e s).ebx = s.ebx := rfl
@[simp] theorem mwaitWake_rcx (d : Draw) (e : Word64) (s : State) :
    (mwaitWake d e s).rcx = s.rcx := rfl
@[simp] theorem mwaitWake_edx (d : Draw) (e : Word64) (s : State) :
    (mwaitWake d e s).edx = s.edx := rfl
@[simp] theorem mwaitWake_pc (d : Draw) (e : Word64) (s : State) :
    (mwaitWake d e s).pc = s.pc := rfl
@[simp] theorem mwaitWake_intFlag (d : Draw) (e : Word64) (s : State) :
    (mwaitWake d e s).intFlag = s.intFlag := rfl
@[simp] theorem mwaitWake_cpl (d : Draw) (e : Word64) (s : State) :
    (mwaitWake d e s).cpl = s.cpl := rfl
@[simp] theorem mwaitWake_mode (d : Draw) (e : Word64) (s : State) :
    (mwaitWake d e s).mode = s.mode := rfl
@[simp] theorem mwaitWake_miscEnable (d : Draw) (e : Word64) (s : State) :
    (mwaitWake d e s).miscEnable = s.miscEnable := rfl
@[simp] theorem mwaitWake_monitor (d : Draw) (e : Word64) (s : State) :
    (mwaitWake d e s).monitor = completedMonitor d e s.monitor := rfl
@[simp] theorem mwaitWake_run (d : Draw) (e : Word64) (s : State) :
    (mwaitWake d e s).run = .executing := rfl
@[simp] theorem mwaitWake_pending (d : Draw) (e : Word64) (s : State) :
    (mwaitWake d e s).pending = s.pending := rfl
@[simp] theorem mwaitWake_mem (d : Draw) (e : Word64) (s : State) :
    (mwaitWake d e s).mem = s.mem := rfl
@[simp] theorem mwaitWake_cfg (d : Draw) (e : Word64) (s : State) :
    (mwaitWake d e s).cfg = s.cfg := rfl
@[simp] theorem mwaitWake_draws (d : Draw) (e : Word64) (s : State) :
    (mwaitWake d e s).draws = s.draws + 1 := rfl
@[simp] theorem mwaitWake_agenda (d : Draw) (e : Word64) (s : State) :
    (mwaitWake d e s).agenda = s.agenda := rfl

/-! ## A waiting processor's turn -/

@[simp] theorem waitTurn_eax (d : Draw) (e : Word64) (s : State) :
    (waitTurn d e s).eax = s.eax := by
  unfold waitTurn; split <;> rfl
@[simp] theorem waitTurn_ebx (d : Draw) (e : Word64) (s : State) :
    (waitTurn d e s).ebx = s.ebx := by
  unfold waitTurn; split <;> rfl
@[simp] theorem waitTurn_rcx (d : Draw) (e : Word64) (s : State) :
    (waitTurn d e s).rcx = s.rcx := by
  unfold waitTurn; split <;> rfl
@[simp] theorem waitTurn_edx (d : Draw) (e : Word64) (s : State) :
    (waitTurn d e s).edx = s.edx := by
  unfold waitTurn; split <;> rfl
@[simp] theorem waitTurn_pc (d : Draw) (e : Word64) (s : State) :
    (waitTurn d e s).pc = s.pc := by
  unfold waitTurn; split <;> rfl
@[simp] theorem waitTurn_intFlag (d : Draw) (e : Word64) (s : State) :
    (waitTurn d e s).intFlag = s.intFlag := by
  unfold waitTurn; split <;> rfl
@[simp] theorem waitTurn_cpl (d : Draw) (e : Word64) (s : State) :
    (waitTurn d e s).cpl = s.cpl := by
  unfold waitTurn; split <;> rfl
@[simp] theorem waitTurn_mode (d : Draw) (e : Word64) (s : State) :
    (waitTurn d e s).mode = s.mode := by
  unfold waitTurn; split <;> rfl
@[simp] theorem waitTurn_miscEnable (d : Draw) (e : Word64) (s : State) :
    (waitTurn d e s).miscEnable = s.miscEnable := by
  unfold waitTurn; split <;> rfl
@[simp] theorem waitTurn_pending (d : Draw) (e : Word64) (s : State) :
    (waitTurn d e s).pending = s.pending := by
  unfold waitTurn; split <;> rfl
@[simp] theorem waitTurn_mem (d : Draw) (e : Word64) (s : State) :
    (waitTurn d e s).mem = s.mem := by
  unfold waitTurn; split <;> rfl
@[simp] theorem waitTurn_cfg (d : Draw) (e : Word64) (s : State) :
    (waitTurn d e s).cfg = s.cfg := by
  unfold waitTurn; split <;> rfl
@[simp] theorem waitTurn_draws (d : Draw) (e : Word64) (s : State) :
    (waitTurn d e s).draws = s.draws + 1 := by
  unfold waitTurn; split <;> rfl
@[simp] theorem waitTurn_agenda (d : Draw) (e : Word64) (s : State) :
    (waitTurn d e s).agenda = s.agenda := by
  unfold waitTurn; split <;> rfl

/-! ## The issue of MWAIT -/

@[simp] theorem mwaitIssue_eax (d : Draw) (s : State) :
    (mwaitIssue d s).eax = s.eax := by
  unfold mwaitIssue; split <;> rfl
@[simp] theorem mwaitIssue_ebx (d : Draw) (s : State) :
    (mwaitIssue d s).ebx = s.ebx := by
  unfold mwaitIssue; split <;> rfl
@[simp] theorem mwaitIssue_rcx (d : Draw) (s : State) :
    (mwaitIssue d s).rcx = s.rcx := by
  unfold mwaitIssue; split <;> rfl
@[simp] theorem mwaitIssue_edx (d : Draw) (s : State) :
    (mwaitIssue d s).edx = s.edx := by
  unfold mwaitIssue; split <;> rfl
@[simp] theorem mwaitIssue_pc (d : Draw) (s : State) :
    (mwaitIssue d s).pc = s.pcPlus 3 := by
  unfold mwaitIssue; split <;> rfl
@[simp] theorem mwaitIssue_intFlag (d : Draw) (s : State) :
    (mwaitIssue d s).intFlag = s.intFlag := by
  unfold mwaitIssue; split <;> rfl
@[simp] theorem mwaitIssue_cpl (d : Draw) (s : State) :
    (mwaitIssue d s).cpl = s.cpl := by
  unfold mwaitIssue; split <;> rfl
@[simp] theorem mwaitIssue_mode (d : Draw) (s : State) :
    (mwaitIssue d s).mode = s.mode := by
  unfold mwaitIssue; split <;> rfl
@[simp] theorem mwaitIssue_miscEnable (d : Draw) (s : State) :
    (mwaitIssue d s).miscEnable = s.miscEnable := by
  unfold mwaitIssue; split <;> rfl
@[simp] theorem mwaitIssue_pending (d : Draw) (s : State) :
    (mwaitIssue d s).pending = s.pending := by
  unfold mwaitIssue; split <;> rfl
@[simp] theorem mwaitIssue_mem (d : Draw) (s : State) :
    (mwaitIssue d s).mem = s.mem := by
  unfold mwaitIssue; split <;> rfl
@[simp] theorem mwaitIssue_cfg (d : Draw) (s : State) :
    (mwaitIssue d s).cfg = s.cfg := by
  unfold mwaitIssue; split <;> rfl
@[simp] theorem mwaitIssue_draws (d : Draw) (s : State) :
    (mwaitIssue d s).draws = s.draws + 1 := by
  unfold mwaitIssue; split <;> rfl
@[simp] theorem mwaitIssue_agenda (d : Draw) (s : State) :
    (mwaitIssue d s).agenda = s.agenda := by
  unfold mwaitIssue; split <;> rfl

/-! ## A write of IA32_MISC_ENABLE[18] -/

@[simp] theorem writeMiscEnable_eax (d : Draw) (b : Bool) (s : State) :
    (writeMiscEnable d b s).eax = s.eax := by
  unfold writeMiscEnable; split <;> rfl
@[simp] theorem writeMiscEnable_ebx (d : Draw) (b : Bool) (s : State) :
    (writeMiscEnable d b s).ebx = s.ebx := by
  unfold writeMiscEnable; split <;> rfl
@[simp] theorem writeMiscEnable_rcx (d : Draw) (b : Bool) (s : State) :
    (writeMiscEnable d b s).rcx = s.rcx := by
  unfold writeMiscEnable; split <;> rfl
@[simp] theorem writeMiscEnable_edx (d : Draw) (b : Bool) (s : State) :
    (writeMiscEnable d b s).edx = s.edx := by
  unfold writeMiscEnable; split <;> rfl
@[simp] theorem writeMiscEnable_pc (d : Draw) (b : Bool) (s : State) :
    (writeMiscEnable d b s).pc = s.pc := by
  unfold writeMiscEnable; split <;> rfl
@[simp] theorem writeMiscEnable_intFlag (d : Draw) (b : Bool) (s : State) :
    (writeMiscEnable d b s).intFlag = s.intFlag := by
  unfold writeMiscEnable; split <;> rfl
@[simp] theorem writeMiscEnable_cpl (d : Draw) (b : Bool) (s : State) :
    (writeMiscEnable d b s).cpl = s.cpl := by
  unfold writeMiscEnable; split <;> rfl
@[simp] theorem writeMiscEnable_mode (d : Draw) (b : Bool) (s : State) :
    (writeMiscEnable d b s).mode = s.mode := by
  unfold writeMiscEnable; split <;> rfl
@[simp] theorem writeMiscEnable_run (d : Draw) (b : Bool) (s : State) :
    (writeMiscEnable d b s).run = s.run := by
  unfold writeMiscEnable; split <;> rfl
@[simp] theorem writeMiscEnable_pending (d : Draw) (b : Bool) (s : State) :
    (writeMiscEnable d b s).pending = s.pending := by
  unfold writeMiscEnable; split <;> rfl
@[simp] theorem writeMiscEnable_mem (d : Draw) (b : Bool) (s : State) :
    (writeMiscEnable d b s).mem = s.mem := by
  unfold writeMiscEnable; split <;> rfl
@[simp] theorem writeMiscEnable_cfg (d : Draw) (b : Bool) (s : State) :
    (writeMiscEnable d b s).cfg = s.cfg := by
  unfold writeMiscEnable; split <;> rfl
@[simp] theorem writeMiscEnable_draws (d : Draw) (b : Bool) (s : State) :
    (writeMiscEnable d b s).draws = s.draws + 1 := by
  unfold writeMiscEnable; split <;> rfl
@[simp] theorem writeMiscEnable_agenda (d : Draw) (b : Bool) (s : State) :
    (writeMiscEnable d b s).agenda = s.agenda := by
  unfold writeMiscEnable; split <;> rfl

@[simp] theorem writeMiscEnable_miscEnable (d : Draw) (b : Bool) (s : State) :
    (writeMiscEnable d b s).miscEnable = b := by cases b <;> rfl

/-! ## Memory after a store -/

/-- The bytes of a store read back. -/
theorem agentStore_read_inside (d : Draw) (g : Agent) (a : Nat) (bs : List Byte) (s : State) {k : Nat}
    (h : k < bs.length) : (agentStore d g a bs s).mem.read (a + k) = bs[k]? :=
  Memory.read_writeBytes_inside _ _ _ _ h

/-- Outside the bytes of a store memory reads as before. -/
theorem agentStore_read_outside (d : Draw) (g : Agent) (a : Nat) (bs : List Byte) (s : State) {x : Nat}
    (h : x < a ∨ a + bs.length ≤ x) : (agentStore d g a bs s).mem.read x = s.mem.read x :=
  Memory.read_writeBytes_outside _ _ _ _ h

/-! ## The program counter -/

/-- The width of the program counter is at most the 64 bits that carry it. -/
theorem State.two_pow_width_le (s : State) : 2 ^ s.width ≤ 2 ^ 64 :=
  Nat.pow_le_pow_right (by decide) (by unfold State.width; cases s.cfg.addrWidth <;> decide)

/-- An advanced pc stays within ADDR_WIDTH. -/
theorem State.pcPlus_lt (s : State) (n : Nat) : (s.pcPlus n).toNat < 2 ^ s.width := by
  have := Nat.mod_lt (s.pc.toNat + n) (show 0 < 2 ^ s.width by positivity)
  simp only [State.pcPlus, BitVec.toNat_ofNat]
  exact lt_of_le_of_lt (Nat.mod_le _ _) this

/-- The number an advanced pc is. -/
theorem State.pcPlus_toNat (s : State) (n : Nat) :
    (s.pcPlus n).toNat = (s.pc.toNat + n) % 2 ^ s.width := by
  have := s.two_pow_width_le
  have := Nat.mod_lt (s.pc.toNat + n) (show 0 < 2 ^ s.width by positivity)
  rw [State.pcPlus, BitVec.toNat_ofNat, Nat.mod_eq_of_lt (by omega)]

/-- Away from the top of the address space pc advances by plain addition. -/
theorem State.pcPlus_of_lt {s : State} {n : Nat} (h : s.pc.toNat + n < 2 ^ s.width) :
    (s.pcPlus n).toNat = s.pc.toNat + n := by
  have := s.two_pow_width_le
  rw [State.pcPlus, Nat.mod_eq_of_lt h, BitVec.toNat_ofNat, Nat.mod_eq_of_lt (by omega)]

end Sys2Proof.Machine
end

