-- ==== Sys2Proof/Laws/Step.lean ====
section
/-! SUPPORT. Everything a step can do: the inversions that the invariants are derived from. -/

namespace Sys2Proof.Machine

/-- Everything an instruction can do when it completes. -/
theorem exec_next_cases {i : Instr} {s t : State} (h : exec i s = .next t) :
    (i = .mwait ∧ s.MwaitPasses ∧ t = mwaitIssue s.draw s) ∨
    (i = .monitor ∧ s.miscEnable = true ∧ s.cfg.monitorHw = true ∧ t = monitorResult s.draw s) ∨
    (i = .cpuid ∧ t = cpuidResult s.draw s) := by
  cases i with
  | mwait => exact .inl ⟨rfl, mwaitWith_next h⟩
  | monitor =>
    refine .inr (.inl ⟨rfl, ?_⟩)
    change execMonitor s = _ at h
    rw [execMonitor_eq] at h
    split_ifs at h with hc
    cases h
    exact ⟨hc.1, hc.2, rfl⟩
  | cpuid => cases h; exact .inr (.inr ⟨rfl, rfl⟩)

/-- Everything the processor's turn can do when it answers a next state. -/
theorem processorStep_next_cases {s t : State} (h : processorStep s = .next t) :
    (∃ hint e, s.run = .optimized hint e ∧ t = waitTurn s.draw e s) ∨
    (s.run = .executing ∧ boundaryEvent s.draw s = none ∧
      ∃ i, fetch (afterBoundary s) = .next i ∧ exec i (afterBoundary s) = .next t) := by
  unfold processorStep at h
  split at h
  · rename_i hint e hr; cases h; exact .inl ⟨hint, e, hr, rfl⟩
  · rename_i hr
    split at h
    · cases h
    · rename_i hb
      unfold instructionStep at h
      split at h
      · rename_i i hi; exact .inr ⟨hr, hb, i, hi, h⟩
      · cases h
      · cases h

/-- Everything another agent's turn can do when it answers a next state. -/
theorem turnStep_next_cases {u : Turn} {s t : State} (h : turnStep u s = .next t) :
    (u = .processor ∧ processorStep s = .next t) ∨
    (∃ g a bs, u = .store g a bs ∧ (s.waiting = false ∨ g ≠ .thisProcessor) ∧
      t = agentStore s.draw g a bs s) ∨
    (∃ k, u = .raise k ∧ t = s.setPending (s.pending.set true k)) ∨
    (∃ b, u = .writeMiscEnable b ∧ s.waiting = false ∧ t = writeMiscEnable s.draw b s) := by
  cases u with
  | processor => exact .inl ⟨rfl, h⟩
  | store g a bs =>
    simp only [turnStep, storeTurn] at h
    split_ifs at h with hc
    cases h
    refine .inr (.inl ⟨g, a, bs, rfl, ?_, rfl⟩)
    by_cases hw : s.waiting = false
    · exact .inl hw
    · refine .inr fun hg => hc ?_
      simp_all
  | raise k => cases h; exact .inr (.inr (.inl ⟨k, rfl, rfl⟩))
  | writeMiscEnable b =>
    simp only [turnStep, miscEnableTurn] at h
    split_ifs at h with hc
    cases h
    exact .inr (.inr (.inr ⟨b, rfl, by simpa using hc, rfl⟩))

/-- The turn that a step takes: the processor's on an empty agenda, else the first of the agenda. -/
def firstTurn (s : State) : Turn :=
  match s.agenda with
  | [] => .processor
  | t :: _ => t

/-- A step is its first turn, taken with the rest of the agenda. -/
theorem step_eq (s : State) : step s = turnStep (firstTurn s) (s.setAgenda s.agenda.tail) := by
  unfold step firstTurn
  cases h : s.agenda with
  | nil =>
    have hs : s.setAgenda [] = s := by obtain ⟨⟩ := s; simp_all [State.setAgenda]
    simp [hs, turnStep]
  | cons t rest => rfl

/-- Instruction bytes at pc are fetched. -/
theorem fetch_of_holdsAtPc {s : State} {i : Instr} (h : s.HoldsAtPc i) : fetch s = .next i := by
  obtain ⟨hl, hb⟩ := h
  have hmax : (encode i).length ≤ maxLength := by cases i <;> decide
  obtain ⟨rest, hr⟩ := fetchBytes_take s.mem (2 ^ s.width) maxLength s.pc.toNat (encode i) hmax hl hb
  rw [fetch_next_iff]
  refine ⟨rest, ?_⟩
  rw [State.bytesAtPc, hr]
  cases i <;> rfl

/-- A fetched instruction stands at pc. -/
theorem holdsAtPc_of_fetch {s : State} {i : Instr} (h : fetch s = .next i) : s.HoldsAtPc i := by
  obtain ⟨rest, hr⟩ := fetch_next_iff.mp h
  have hb : s.bytesAtPc.1 = encode i ++ rest := by
    rcases decode_ok_cases hr with ⟨rfl, hb⟩ | ⟨rfl, hb⟩ | ⟨rfl, hb⟩ <;> exact hb
  have key := fetchBytes_mem s.mem (2 ^ s.width) maxLength s.pc.toNat
  rw [show (fetchBytes s.mem (2 ^ s.width) maxLength s.pc.toNat).1 = encode i ++ rest from hb] at key
  have hpos : 0 < i.length := by cases i <;> decide
  have hlast := key (i.length - 1) (by rw [List.length_append]; unfold Instr.length at *; omega)
  refine ⟨by omega, fun k hk => ?_⟩
  have := (key k (by rw [List.length_append]; unfold Instr.length at *; omega)).2
  rw [this, List.getElem?_append_left hk]

/-! ## One step, by what moves next -/

theorem step_of_nil {s : State} (h : s.agenda = []) : step s = processorStep s := by simp [step, h]

theorem step_of_cons {s : State} {u : Turn} {rest : List Turn} (h : s.agenda = u :: rest) :
    step s = turnStep u (s.setAgenda rest) := by simp [step, h]

theorem firstTurn_eq_processor_iff {s : State} : firstTurn s = .processor ↔ s.ProcessorMoves := by
  unfold firstTurn State.ProcessorMoves
  cases s.agenda <;> simp

/-- Where the processor moves next, the step is its turn, taken with the rest of the agenda. -/
theorem step_of_processorMoves {s : State} (h : s.ProcessorMoves) :
    step s = processorStep (s.setAgenda s.agenda.tail) := by
  rw [step_eq, firstTurn_eq_processor_iff.mpr h]; rfl

/-- A waiting processor's step is its wait turn. -/
theorem step_of_waiting {s : State} {hint : Word32} {e : Word64} (hr : s.run = .optimized hint e)
    (h : s.ProcessorMoves) : step s = .next (waitTurn s.draw e (s.setAgenda s.agenda.tail)) := by
  rw [step_of_processorMoves h]; simp only [processorStep, State.setAgenda_run, hr]; rfl

/-- An executing processor that takes an event at the boundary ends the run there. -/
theorem step_of_boundaryEvent {s : State} {k : EventKind} (h : s.ProcessorMoves)
    (hr : s.run = .executing) (hb : boundaryEvent s.draw s = some k) :
    step s = .fault (deliverEvent k (s.setAgenda s.agenda.tail)) := by
  rw [step_of_processorMoves h]
  have hb' : boundaryEvent (s.setAgenda s.agenda.tail).draw (s.setAgenda s.agenda.tail) = some k := hb
  simp only [processorStep, State.setAgenda_run, hr, hb']

/-- An executing processor that takes no event at the boundary runs the instruction at pc. -/
theorem step_of_no_boundaryEvent {s : State} (h : s.ProcessorMoves) (hr : s.run = .executing)
    (hb : boundaryEvent s.draw s = none) :
    step s = instructionStep (afterBoundary (s.setAgenda s.agenda.tail)) := by
  rw [step_of_processorMoves h]
  have hb' : boundaryEvent (s.setAgenda s.agenda.tail).draw (s.setAgenda s.agenda.tail) = none := hb
  simp only [processorStep, State.setAgenda_run, hr, hb']

theorem afterBoundary_of_nil {s : State} (h : s.deliverable = []) : afterBoundary s = s := by
  simp [afterBoundary, h]

theorem afterBoundary_of_ne_nil {s : State} (h : s.deliverable ≠ []) :
    afterBoundary s = s.nextDraw := by
  simp [afterBoundary, h]

/-- An executing processor with nothing deliverable runs the instruction at pc. -/
theorem step_of_executing {s : State} (h : s.ProcessorMoves) (hr : s.run = .executing)
    (hd : s.deliverable = []) : step s = instructionStep (s.setAgenda s.agenda.tail) := by
  rw [step_of_no_boundaryEvent h hr (boundaryEvent_nil hd),
    afterBoundary_of_nil (show (s.setAgenda s.agenda.tail).deliverable = [] from hd)]

/-! ## Where an event can be delivered -/

/-- No instruction delivers an event. -/
theorem instructionStep_ne_event (s : State) (k : EventKind) (u : State) :
    instructionStep s ≠ .fault (.event k u) := by
  intro h
  unfold instructionStep at h
  split at h
  · rename_i i _
    cases i with
    | mwait =>
      change mwaitWith _ _ = _ at h
      unfold mwaitWith mwaitFault at h
      split_ifs at h <;> cases h
    | monitor =>
      change execMonitor _ = _ at h
      rw [execMonitor_eq] at h
      split_ifs at h
      cases h
    | cpuid => cases h
  · rename_i f hf
    cases h
    unfold fetch at hf
    split at hf <;> try cases hf
    split at hf <;> cases hf
  · cases h

/-- A fault comes only from the processor's turn. -/
theorem processorMoves_of_fault {s : State} {f : Fault} (h : step s = .fault f) :
    s.ProcessorMoves := by
  rw [← firstTurn_eq_processor_iff]
  rw [step_eq] at h
  cases hu : firstTurn s with
  | processor => rfl
  | store g a bs => rw [hu] at h; simp only [turnStep, storeTurn] at h; split_ifs at h
  | raise k => rw [hu] at h; cases h
  | writeMiscEnable b =>
    rw [hu] at h; simp only [turnStep, miscEnableTurn] at h; split_ifs at h

/-- Everything the delivery of an event tells: it is the executing processor's turn, and the boundary
chose that event. -/
theorem step_event_cases {s t : State} {k : EventKind} (h : step s = .fault (.event k t)) :
    s.ProcessorMoves ∧ s.run = .executing ∧ boundaryEvent s.draw s = some k ∧
      t = (s.setAgenda s.agenda.tail).setPending (s.pending.set false k) := by
  have hp := processorMoves_of_fault h
  cases hr : s.run with
  | optimized hint e => rw [step_of_waiting hr hp] at h; cases h
  | executing =>
    cases hb : boundaryEvent s.draw s with
    | none => rw [step_of_no_boundaryEvent hp hr hb] at h; exact absurd h (instructionStep_ne_event _ _ _)
    | some j =>
      rw [step_of_boundaryEvent hp hr hb] at h
      cases h
      exact ⟨hp, rfl, rfl, rfl⟩

theorem State.waiting_eq_false_iff (s : State) : s.waiting = false ↔ s.run = .executing := by
  unfold State.waiting; split <;> simp_all

/-- A turn other than the processor's is the head of the agenda. -/
theorem agenda_of_firstTurn {s : State} {u : Turn} (h : firstTurn s = u) (hu : u ≠ .processor) :
    s.agenda = u :: s.agenda.tail := by
  unfold firstTurn at h
  split at h
  · exact absurd h.symm hu
  · rename_i heq; rw [heq, h]; rfl

end Sys2Proof.Machine
end

