-- ==== Sys2Proof/Laws/Virtualization.lean ====
section
/-! SUPPORT. Laws of the virtualization recipe. -/

namespace Sys2Proof.Machine

/-- A guest's execution is the VMM's answer where it is intercepted and the plain rule where it is
not. -/
theorem guestExec_cases (i : Instr) (s : State) :
    (s.intercepted i = true ∧ guestExec i s = vmmAnswer i s) ∨
    (s.intercepted i = false ∧ guestExec i s = exec i s) := by
  unfold guestExec
  cases s.intercepted i <;> simp

/-- Outside a guest nothing is intercepted. -/
theorem intercepted_of_absent {s : State} (h : s.cfg.vmmIntercept = none) (i : Instr) :
    s.intercepted i = false := by
  simp [State.intercepted, h]

end Sys2Proof.Machine
end

