-- ==== Sys2Proof/Tests/Slice0.lean ====
section
/-! SUPPORT. Tests: ill-formed configurations are refused, the words written out from the spec's encodings
decode, single steps of each instruction by vectors of 95_test_vectors.md, and for every obligation
with hypotheses a witness that meets them. -/

namespace Sys2Proof.Tests

open Sys2Proof.Machine

/-! ## Well-formedness -/

/-- A configuration whose monitored range has no byte is refused (20_memory.md R31). -/
theorem test_wf_refuses_an_empty_range :
    { Config.standard with rangeSize := 0 }.wellFormed = false := by decide

/-- CSTATES is a set: a state listed twice is refused (00_scope.md R5). -/
theorem test_wf_refuses_a_repeated_cstate :
    { Config.standard with cstates := [⟨1, 0⟩, ⟨1, 0⟩] }.wellFormed = false := by decide

/-- Cores that disagree on MONITORLESS_MWAIT are refused (40_enumeration_enabling.md R57). -/
theorem test_wf_refuses_a_hybrid_disagreement :
    Config.hybridConsistent [Config.standard, { Config.standard with monitorless := false }]
      = false := by decide

/-- The source says nothing of IBE: cores that differ in it alone are admitted (R57). -/
theorem test_wf_accepts_a_hybrid_difference_in_ibe :
    Config.hybridConsistent [Config.standard, { Config.standard with ibe := false }] = true := by
  decide

/-- The configuration at reset and every instruction are well formed. -/
theorem test_wf_accepts : Config.standard.wellFormed = true
    ∧ [Instr.mwait, .monitor, .cpuid].all Instr.wellFormed = true := by decide

/-! ## Decoding: the words bit by bit, as opcode_table.json writes them under "encoding" -/

/-- MWAIT is `00001111 00000001 11001001` (95_test_vectors.md S1). -/
theorem test_decode_mwait :
    decode [0b00001111#8, 0b00000001#8, 0b11001001#8] = .ok (.mwait, []) := by decide

/-- MONITOR is `00001111 00000001 11001000`, with the byte after it left over. -/
theorem test_decode_monitor :
    decode [0b00001111#8, 0b00000001#8, 0b11001000#8, 0b00001111#8]
      = .ok (.monitor, [0b00001111#8]) := by decide

/-- CPUID is `00001111 10100010`. -/
theorem test_decode_cpuid : decode [0b00001111#8, 0b10100010#8] = .ok (.cpuid, []) := by decide

/-- The table's words, the first byte in the most significant position. -/
theorem test_decode_table_words :
    decodeTableWord 24 0b000011110000000111001001 = some .mwait
      ∧ decodeTableWord 24 0b000011110000000111001000 = some .monitor
      ∧ decodeTableWord 16 0b0000111110100010 = some .cpuid := by decide

/-- A prefixed MWAIT (66), HLT (F4), `0F 01 CA` and `0F 0B` are refused by name (R45, D20). -/
theorem test_decode_refuses :
    decode [0x66#8, 0x0F#8, 0x01#8, 0xC9#8] = .error (.notEscape 0x66#8)
      ∧ decode [0xF4#8] = .error (.notEscape 0xF4#8)
      ∧ decode [0x0F#8, 0x01#8, 0xCA#8] = .error (.unknownThird 0xCA#8)
      ∧ decode [0x0F#8, 0x0B#8, 0x00#8] = .error (.unknownSecond 0x0B#8)
      ∧ decode [0x0F#8, 0x01#8] = .error .truncated := by decide

/-! ## Small states -/

/-- Protected mode, level 0, everything enumerated, MWAIT's ECX = 0, pc = 1000H. -/
def base : State := { State.reset with mode := .protectedMode, pc := 0x1000 }

/-- The range of 64 bytes at 3000H. -/
def range0 : Range := ⟨0x3000, 64⟩

/-- `base` with the monitor armed. -/
def armed : State := { base with monitor := .armed range0 }

/-- A wait with extensions `e`, entered at 1000H with the hint of C2. -/
def waiting (e : Word64) : State := { armed with run := .optimized 0x10 e, pc := 0x1003 }

/-- A state with a table word at pc. -/
def holding (nbits w : Nat) : State := base.withFetchWord nbits w

/-- Protected or another mode, a level, a configuration and a value of RCX: a row of the vectors. -/
def vec (m : Mode) (c : BitVec 2) (cf : Config) (x : Word64) : State :=
  { base with mode := m, cpl := c, cfg := cf, rcx := x }

/-- A configuration under `FAULT_PRIORITY = either`. -/
def either : Config := { Config.standard with faultPriority := .either }

/-- The same with neither MONITOR nor MWAIT, so without leaf 05H. -/
def eitherNoLeaf : Config := { either with monitorHw := false, mwaitHw := false, monitorless := false }

/-- A wait with one kind of event pending. -/
def waitingFor (e : Word64) (k : EventKind) : State :=
  (waiting e).setPending (Pending.none.set true k)

/-- The bits `cfg.MONITOR_HW`, `cfg.MWAIT_HW`, `cfg.MONITORLESS`, `cfg.IBE` of a vector. -/
def bits (m w l i : Bool) : Config :=
  { Config.standard with monitorHw := m, mwaitHw := w, monitorless := l, ibe := i }

/-- A draw in which everything optional happens. -/
def yes : Draw :=
  { (default : Draw) with
    enter := true, trigger := true, arm := true, placement := 5, storeTriggers := true,
    wake := true, deliver := true }

/-- A draw in which nothing optional happens. -/
def no : Draw := default

/-! ## Single steps -/

/-- V4: `l = 0`, ECX = 4 is #GP(0); V33: RCX = 1_0000_0004H in 64-bit mode is #GP(0); V27: ECX = 4 at
level 1 is #UD; V44: ECX = 2 in real-address mode is #GP without a code. -/
theorem test_mwait_faults :
    mwaitFault no (vec .protectedMode 0 (bits true false false true) 4)
        = some (.generalProtection (some 0)
            (vec .protectedMode 0 (bits true false false true) 4))
      ∧ mwaitFault no (vec .long64 0 Config.standard 0x100000004)
        = some (.generalProtection (some 0) (vec .long64 0 Config.standard 0x100000004))
      ∧ mwaitFault no (vec .protectedMode 1 Config.standard 4)
        = some (.invalidOpcode (vec .protectedMode 1 Config.standard 4))
      ∧ mwaitFault no (vec .real 0 Config.standard 2)
        = some (.generalProtection none (vec .real 0 Config.standard 2)) := by decide

/-- B1 and P2 case E: entered with the hint 3000H, pc is at the next instruction and the monitor stays
armed; skipped, it is triggered (R73). -/
theorem test_mwait_enters_or_skips :
    (mwaitIssue yes { armed with eax := 0x3000 }).run = .optimized 0x3000 0
      ∧ (mwaitIssue yes armed).monitor = .armed range0 ∧ (mwaitIssue yes armed).pc = 0x1003
      ∧ (mwaitIssue no armed).run = .executing ∧ (mwaitIssue no armed).monitor = .triggered
      ∧ (mwaitIssue no armed).pc = 0x1003 := by decide

/-- M1 with the worked example of R80: 64 bytes that contain 2000H, here from five bytes below it; or
idle. -/
theorem test_monitor_arms :
    (monitorResult yes { base with eax := 0x2000 }).monitor = .armed ⟨0x1FFB, 64⟩
      ∧ (monitorResult no { base with eax := 0x2000 }).monitor = .idle
      ∧ (monitorResult no base).pc = 0x1003 := by decide

/-- The worked example of R81: `m = 0, w = 1` is #UD. -/
theorem test_monitor_unsupported :
    exec .monitor (vec .protectedMode 0 (bits false true true true) 0)
      = .fault (.invalidOpcode (vec .protectedMode 0 (bits false true true true) 0)) := rfl

/-- Program P5: CPUID leaf 05H leaves bit 3 of ECX at MONITORLESS, and an MWAIT right after it is #GP(0)
by G1. -/
theorem test_cpuid_then_mwait :
    (cpuidResult no { base with eax := 5 }).ecx = 0xB#32
      ∧ (cpuidResult no { base with eax := 5 }).pc = 0x1002
      ∧ mwaitFault no (cpuidResult no { base with eax := 5 })
        = some (.generalProtection (some 0) (cpuidResult no { base with eax := 5 })) := by decide

/-- The worked example of R59: leaf 07H, sub-leaf 01H has EDX bit 23 set; with sub-leaf 00H the bit is
not named. -/
theorem test_cpuid_leaf07 :
    (cpuidResult no { base with eax := 7, rcx := 1 }).edx = 0x800000#32
      ∧ (cpuidResult no { base with eax := 7, rcx := 0 }).edx = 0#32 := by decide

/-- H2, H4, H5 and H7 of 95_test_vectors.md. -/
theorem test_hints : requestedCState 0x10 = ⟨2, 0⟩ ∧ requestedCState 0xE3 = ⟨15, 3⟩
    ∧ requestedCState 0xF0 = ⟨0, 0⟩ ∧ requestedCState 0xFFFFFFFF = ⟨0, 15⟩ := by decide

/-! ## Witnesses of the obligations' hypotheses -/

theorem test_base_passes : base.MwaitPasses := by
  unfold State.MwaitPasses State.UdCondition State.GpCondition State.GpReservedBits; decide

theorem test_witness_EveryStepKeepsTheInvariant :
    (holding 16 0x0FA2).Inv ∧ (waiting 0).Inv
      ∧ step (holding 16 0x0FA2)
        = .next (cpuidResult (holding 16 0x0FA2).draw (holding 16 0x0FA2))
      ∧ step (waiting 0) = .next (waitTurn (waiting 0).draw 0 (waiting 0)) :=
  ⟨⟨by decide, by decide, by decide, by decide⟩, ⟨by decide, by decide, by decide, by decide⟩,
    rfl, rfl⟩

theorem test_witness_EncodedInstructionsDecodeToThemselves : Instr.mwait.wellFormed = true := by decide

theorem test_holding_mwait : (holding 24 0x0F01C9).HoldsAtPc .mwait := by
  unfold State.HoldsAtPc; decide

/-- The clauses with nothing deliverable. -/
theorem test_witness_StepRunsTheDecodedInstruction :
    Instr.mwait.wellFormed = true ∧ (holding 24 0x0F01C9).run = .executing
      ∧ (holding 24 0x0F01C9).agenda = [] ∧ (holding 24 0x0F01C9).deliverable = []
      ∧ ((holding 24 0x0F01C9).setAgenda [.processor]).deliverable = [] := by decide

/-- The clauses with an NMI pending that the draw does not deliver, unlisted and listed. The draw is a
free value, so this is a witness at every counter whose draw says so. -/
theorem test_witness_StepRunsTheDecodedInstruction_undelivered (n : Nat)
    (h : (Config.draw n).deliver = false) :
    let s : State :=
      { (holding 24 0x0F01C9).setPending (Pending.none.set true .nmi) with draws := n }
    (s.run = .executing ∧ s.HoldsAtPc .mwait ∧ s.agenda = [] ∧ s.deliverable ≠ []
        ∧ boundaryEvent s.draw s = none)
      ∧ ((s.setAgenda [.processor]).HoldsAtPc .mwait
        ∧ (s.setAgenda [.processor]).deliverable ≠ []
        ∧ boundaryEvent (s.setAgenda [.processor]).draw (s.setAgenda [.processor]) = none) := by
  have hd := List.cons_ne_nil EventKind.nmi []
  exact ⟨⟨rfl, test_holding_mwait, rfl, hd, boundaryEvent_withheld (k := .nmi) rfl rfl h⟩,
    test_holding_mwait, hd, boundaryEvent_withheld (k := .nmi) rfl rfl h⟩

/-- A state at a pc with the memory given. -/
def at_ (pc : Word64) (m : Memory) : State := (base.setPc pc).setMem m

/-- A state with no turn listed, and one with the processor's. -/
theorem test_processor_moves (pc : Word64) (m : Memory) :
    (at_ pc m).ProcessorMoves ∧ ((at_ pc m).setAgenda [.processor, .raise .smi]).ProcessorMoves :=
  ⟨.inl rfl, .inr ⟨_, rfl⟩⟩

/-- Each clause at the highest pc it admits; the turn by test_processor_moves. -/
theorem test_witness_BytesOutsideTheTableAreRefused :
    ((at_ 0xFFFF [(0xFFFF, 0xF4#8)]).agenda = []
        ∧ (at_ 0xFFFF [(0xFFFF, 0xF4#8)]).run = .executing
        ∧ (at_ 0xFFFF [(0xFFFF, 0xF4#8)]).deliverable = []
        ∧ (at_ 0xFFFF [(0xFFFF, 0xF4#8)]).pc.toNat < 2 ^ base.width
        ∧ (at_ 0xFFFF [(0xFFFF, 0xF4#8)]).mem.read 0xFFFF = some 0xF4#8)
      ∧ ((at_ 0xFFFE [(0xFFFE, 0x0F#8), (0xFFFF, 0x0B#8)]).pc.toNat + 1 < 2 ^ base.width
        ∧ (at_ 0xFFFE [(0xFFFE, 0x0F#8), (0xFFFF, 0x0B#8)]).mem.read 0xFFFE = some 0x0F#8
        ∧ (at_ 0xFFFE [(0xFFFE, 0x0F#8), (0xFFFF, 0x0B#8)]).mem.read 0xFFFF = some 0x0B#8)
      ∧ ((at_ 0xFFFD [(0xFFFD, 0x0F#8), (0xFFFE, 1#8), (0xFFFF, 0xCA#8)]).pc.toNat + 2
            < 2 ^ base.width
        ∧ (at_ 0xFFFD [(0xFFFD, 0x0F#8), (0xFFFE, 1#8), (0xFFFF, 0xCA#8)]).mem.read 0xFFFD
            = some 0x0F#8
        ∧ (at_ 0xFFFD [(0xFFFD, 0x0F#8), (0xFFFE, 1#8), (0xFFFF, 0xCA#8)]).mem.read 0xFFFE
            = some 1#8
        ∧ (at_ 0xFFFD [(0xFFFD, 0x0F#8), (0xFFFE, 1#8), (0xFFFF, 0xCA#8)]).mem.read 0xFFFF
            = some 0xCA#8) := by decide

/-- A last byte `0F`, a last pair `0F 01`, and an unwritten last byte as the first, the second and the
third of an instruction; the turn by test_processor_moves. -/
theorem test_witness_IncompleteFetchStopsByName :
    ((at_ 0xFFFF [(0xFFFF, 0x0F#8)]).agenda = []
        ∧ (at_ 0xFFFF [(0xFFFF, 0x0F#8)]).run = .executing
        ∧ (at_ 0xFFFF [(0xFFFF, 0x0F#8)]).deliverable = []
        ∧ (at_ 0xFFFF [(0xFFFF, 0x0F#8)]).pc.toNat + 1 = 2 ^ base.width
        ∧ (at_ 0xFFFF [(0xFFFF, 0x0F#8)]).mem.read 0xFFFF = some 0x0F#8)
      ∧ ((at_ 0xFFFE [(0xFFFE, 0x0F#8), (0xFFFF, 1#8)]).pc.toNat + 2 = 2 ^ base.width
        ∧ (at_ 0xFFFE [(0xFFFE, 0x0F#8), (0xFFFF, 1#8)]).mem.read 0xFFFE = some 0x0F#8
        ∧ (at_ 0xFFFE [(0xFFFE, 0x0F#8), (0xFFFF, 1#8)]).mem.read 0xFFFF = some 1#8)
      ∧ ((at_ 0xFFFF []).pc.toNat < 2 ^ base.width ∧ (at_ 0xFFFF []).mem.read 0xFFFF = none)
      ∧ ((at_ 0xFFFE [(0xFFFE, 0x0F#8)]).pc.toNat + 1 < 2 ^ base.width
        ∧ (at_ 0xFFFE [(0xFFFE, 0x0F#8)]).mem.read 0xFFFE = some 0x0F#8
        ∧ (at_ 0xFFFE [(0xFFFE, 0x0F#8)]).mem.read 0xFFFF = none)
      ∧ ((at_ 0xFFFD [(0xFFFD, 0x0F#8), (0xFFFE, 1#8)]).pc.toNat + 2 < 2 ^ base.width
        ∧ (at_ 0xFFFD [(0xFFFD, 0x0F#8), (0xFFFE, 1#8)]).mem.read 0xFFFD = some 0x0F#8
        ∧ (at_ 0xFFFD [(0xFFFD, 0x0F#8), (0xFFFE, 1#8)]).mem.read 0xFFFE = some 1#8
        ∧ (at_ 0xFFFD [(0xFFFD, 0x0F#8), (0xFFFE, 1#8)]).mem.read 0xFFFF = none) := by decide

/-- U1 to U4 each; V26 under the default priority, and under `either` level 3 with a valid ECX, and
ECX = 4 with neither instruction, where G3 is not well defined. -/
theorem test_witness_MwaitInvalidOpcode :
    ((vec .protectedMode 3 Config.standard 2).UdCondition
        ∧ (vec .protectedMode 3 Config.standard 2).ReportsUd)
      ∧ ((vec .protectedMode 3 either 0).UdCondition ∧ (vec .protectedMode 3 either 0).ReportsUd)
      ∧ ((vec .protectedMode 0 eitherNoLeaf 4).UdCondition
        ∧ (vec .protectedMode 0 eitherNoLeaf 4).ReportsUd)
      ∧ (vec .v8086 3 Config.standard 0).UdCondition
      ∧ (vec .protectedMode 0 (bits false false true true) 4).UdCondition
      ∧ (base.setMiscEnable false).UdCondition := by
  simp only [State.UdCondition, State.ReportsUd, State.GpWellDefined, State.GpReservedBits]
  and_intros <;> decide

/-- V8 (G1), V2 (G2), V4 (G3), V15 (G4), and V1, which passes. -/
theorem test_witness_MwaitGeneralProtection :
    (¬ (vec .protectedMode 0 Config.standard 2).UdCondition
        ∧ (vec .protectedMode 0 Config.standard 2).GpCondition)
      ∧ (vec .protectedMode 0 (bits true false false false) 1).GpCondition
      ∧ (vec .protectedMode 0 (bits true false false true) 4).GpCondition
      ∧ (vec .protectedMode 0 (bits false true true true) 0).GpCondition
      ∧ (¬ base.UdCondition ∧ ¬ base.GpCondition ∧ base.ExtensionsPass) := by
  simp only [State.UdCondition, State.GpCondition, State.GpReservedBits, State.ExtensionsPass]
  and_intros <;> decide

/-- V26 under `either`; and without the leaf ECX = 0, where G4 is well defined, and ECX = 4, where no
condition is. -/
theorem test_witness_FaultPriorityDecidesBetweenUdAndGp :
    ((vec .protectedMode 3 either 2).UdCondition
        ∧ (vec .protectedMode 3 either 2).cfg.faultPriority = .either
        ∧ (vec .protectedMode 3 either 2).mode ≠ .v8086
        ∧ (vec .protectedMode 3 either 2).GpWellDefined)
      ∧ ((vec .protectedMode 0 eitherNoLeaf 0).UdCondition
        ∧ (vec .protectedMode 0 eitherNoLeaf 0).GpWellDefined)
      ∧ ((vec .protectedMode 0 eitherNoLeaf 4).leaf05 = false
        ∧ ¬ (vec .protectedMode 0 eitherNoLeaf 4).GpReservedBits
        ∧ ¬ ((vec .protectedMode 0 eitherNoLeaf 4).ecx.getLsbD 2 = false
          ∧ (vec .protectedMode 0 eitherNoLeaf 4).bitMonitor = false)) := by
  simp only [State.UdCondition, State.GpWellDefined, State.GpReservedBits]
  and_intros <;> decide

/-- The clause on a #GP without the leaf, at every counter whose draw reports one. -/
theorem test_witness_FaultPriorityDecidesBetweenUdAndGp_reported (n : Nat)
    (h : (Config.draw n).reportGp = true) :
    let s : State := { vec .protectedMode 0 eitherNoLeaf 0 with draws := n }
    s.leaf05 = false ∧ exec .mwait s = .fault (.generalProtection (some 0) s) := by
  intro s
  have hb : (vec .protectedMode 0 eitherNoLeaf 0).ecx.getLsbD 2 = false := by decide
  have hr : mwaitReportsGp s.draw s = true :=
    (mwaitReportsGp_iff _ _).mpr ⟨rfl, nofun, .inr (.inr ⟨hb, rfl⟩), h⟩
  refine ⟨rfl, (mwaitWith_of_ud s.draw ((mwaitInvalid_iff s).mp rfl)).trans ?_⟩
  rw [if_pos hr]; rfl

theorem test_witness_FaultingMwaitChangesNothing :
    exec .mwait (vec .protectedMode 0 Config.standard 2)
      = .fault (.generalProtection (some 0) (vec .protectedMode 0 Config.standard 2)) := rfl

/-- V47. -/
theorem test_witness_MwaitNotRecognizedInV8086 : (vec .v8086 3 Config.standard 0).mode = .v8086 := rfl

/-- V27; for the real-address clauses V46, V45 and V44. -/
theorem test_witness_MwaitPrivilege :
    ((vec .protectedMode 1 Config.standard 4).mode ≠ .real
        ∧ (vec .protectedMode 1 Config.standard 4).cpl ≠ 0
        ∧ (vec .protectedMode 1 Config.standard 4).ReportsUd)
      ∧ (vec .real 3 Config.standard 0).mode = .real
      ∧ exec .mwait (vec .real 3 Config.standard 0)
        = .next (mwaitIssue (Config.draw 0) (vec .real 3 Config.standard 0))
      ∧ exec .mwait (vec .real 0 (bits false false true true) 4)
        = .fault (.invalidOpcode (vec .real 0 (bits false false true true) 4))
      ∧ exec .mwait (vec .real 0 Config.standard 2)
        = .fault (.generalProtection none (vec .real 0 Config.standard 2)) :=
  ⟨⟨by decide, by decide, .inl rfl⟩, rfl, rfl, rfl, rfl⟩

/-- V1, V6, V46. -/
theorem test_witness_MwaitCompletes :
    base.MwaitPasses ∧ (vec .protectedMode 0 (bits true false true true) 5).MwaitPasses
      ∧ (vec .real 3 Config.standard 0).MwaitPasses := by
  simp only [State.MwaitPasses, State.UdCondition, State.GpCondition, State.GpReservedBits]
  and_intros <;> decide

/-- The clauses: idle, and armed with either draw. -/
theorem test_witness_MonitoredMwaitWaitsOnlyWhileArmed :
    (base.MwaitPasses ∧ base.ecx.getLsbD 2 = false ∧ ∀ r, base.monitor ≠ .armed r)
      ∧ (armed.MwaitPasses ∧ armed.ecx.getLsbD 2 = false ∧ armed.monitor = .armed range0
        ∧ yes.enter = true ∧ no.enter = false) :=
  ⟨⟨test_base_passes, by decide, nofun⟩, test_base_passes, by decide, rfl, rfl, rfl⟩

/-- V5; B4. -/
theorem test_witness_MonitorlessMwaitMayWaitWhateverTheMonitor :
    ((vec .protectedMode 0 (bits true false true true) 4).MwaitPasses
        ∧ (vec .protectedMode 0 (bits true false true true) 4).ecx.getLsbD 2 = true
        ∧ yes.enter = true)
      ∧ ((waiting 4).run = .optimized 0x10 4 ∧ (4 : Word64).getLsbD 2 = true
        ∧ (waiting 4).pending = .none ∧ no.wake = false ∧ yes.wake = true) := by
  simp only [State.MwaitPasses, State.UdCondition, State.GpCondition, State.GpReservedBits]
  and_intros <;> decide

/-- An MWAIT with the monitor idle completes at once; a wait with an NMI pending wakes (B5), its turn
unlisted and listed; a monitorless MWAIT skips; a monitorless wait wakes by a draw or an NMI. -/
theorem test_witness_CompletedMwaitTriggersTheMonitor :
    (base.run = .executing ∧ exec .mwait base = .next (mwaitIssue base.draw base)
        ∧ (mwaitIssue base.draw base).run = .executing)
      ∧ ((waitingFor 0 .nmi).run = .optimized 0x10 0 ∧ (waitingFor 0 .nmi).agenda = []
        ∧ step (waitingFor 0 .nmi) = .next (mwaitWake (Config.draw 0) 0 (waitingFor 0 .nmi))
        ∧ (mwaitWake (Config.draw 0) 0 (waitingFor 0 .nmi)).run = .executing)
      ∧ step ((waitingFor 0 .nmi).setAgenda [.processor, .raise .smi])
        = .next (mwaitWake (Config.draw 0) 0 ((waitingFor 0 .nmi).setAgenda [.raise .smi]))
      ∧ ((vec .protectedMode 0 Config.standard 4).ecx.getLsbD 2 = true ∧ no.enter = false)
      ∧ ((4 : Word64).getLsbD 2 = true ∧ yes.wake = true ∧ (waitingFor 4 .nmi).BreakEvent 4) :=
  ⟨⟨rfl, rfl, rfl⟩, ⟨rfl, rfl, rfl, rfl⟩, rfl, ⟨by decide, rfl⟩, by decide, rfl, .inr (.inl rfl)⟩

/-- Program P3 with the monitor idle; the wait of B5, its turn unlisted and listed; MONITOR. -/
theorem test_witness_SecondMonitoredMwaitDoesNotWait :
    (base.run = .executing ∧ base.ecx.getLsbD 2 = false
        ∧ exec .mwait base = .next (mwaitIssue base.draw base)
        ∧ (mwaitIssue base.draw base).run = .executing)
      ∧ ((waitingFor 0 .nmi).run = .optimized 0x10 0 ∧ (0 : Word64).getLsbD 2 = false
        ∧ (waitingFor 0 .nmi).agenda = []
        ∧ step (waitingFor 0 .nmi) = .next (mwaitWake (Config.draw 0) 0 (waitingFor 0 .nmi))
        ∧ (mwaitWake (Config.draw 0) 0 (waitingFor 0 .nmi)).run = .executing)
      ∧ ((waitingFor 0 .nmi).setAgenda [.processor, .raise .smi]).ProcessorMoves
      ∧ exec .monitor base = .next (monitorResult base.draw base) :=
  ⟨⟨rfl, by decide, rfl, rfl⟩, ⟨rfl, by decide, rfl, rfl, rfl⟩, .inr ⟨_, rfl⟩, rfl⟩

theorem test_witness_MwaitFrame : exec .mwait armed = .next (mwaitIssue armed.draw armed) := rfl

theorem test_witness_MonitorFrame : exec .monitor armed = .next (monitorResult armed.draw armed) := rfl

theorem test_witness_CpuidFrame : exec .cpuid armed = .next (cpuidResult armed.draw armed) := rfl

/-- V1, V27 and V12. -/
theorem test_witness_EaxHintChangesNoOutcome :
    exec .mwait base = .next (mwaitIssue base.draw base)
      ∧ exec .mwait (vec .protectedMode 1 Config.standard 4)
        = .fault (.invalidOpcode (vec .protectedMode 1 Config.standard 4))
      ∧ exec .mwait (vec .protectedMode 0 Config.standard 8)
        = .fault (.generalProtection (some 0) (vec .protectedMode 0 Config.standard 8)) :=
  ⟨rfl, rfl, rfl⟩

/-- V1, V27 and V12, as above. -/
theorem test_witness_MwaitReadsNoRegisterButEaxAndRcx :
    exec .mwait armed = .next (mwaitIssue armed.draw armed)
      ∧ exec .mwait (vec .protectedMode 1 Config.standard 4)
        = .fault (.invalidOpcode (vec .protectedMode 1 Config.standard 4))
      ∧ exec .mwait (vec .protectedMode 0 Config.standard 8)
        = .fault (.generalProtection (some 0) (vec .protectedMode 0 Config.standard 8)) :=
  ⟨rfl, rfl, rfl⟩

/-- V30; faults outside 64-bit mode at level 1 and with ECX = 2; V35. -/
theorem test_witness_UpperHalfOfRcxMattersOnlyIn64BitMode :
    ((vec .compat 0 Config.standard 4).mode ≠ .long64
        ∧ (0x100000004#64).setWidth 32 = (vec .compat 0 Config.standard 4).ecx
        ∧ exec .mwait (vec .compat 0 Config.standard 4)
          = .next (mwaitIssue (Config.draw 0) (vec .compat 0 Config.standard 4)))
      ∧ (exec .mwait (vec .compat 1 Config.standard 4)
          = .fault (.invalidOpcode (vec .compat 1 Config.standard 4))
        ∧ exec .mwait (vec .compat 0 Config.standard 2)
          = .fault (.generalProtection (some 0) (vec .compat 0 Config.standard 2)))
      ∧ ((vec .long64 0 Config.standard 0x100000000).mode = .long64
        ∧ ¬ (vec .long64 0 Config.standard 0x100000000).UdCondition
        ∧ (vec .long64 0 Config.standard 0x100000000).rcx.extractLsb' 32 32 ≠ 0) :=
  ⟨⟨by decide, by decide, rfl⟩, ⟨rfl, rfl⟩, rfl, by unfold State.UdCondition; decide, by decide⟩

/-- The values of `t` where the clauses meet: 15 and 14. -/
theorem test_witness_HintNamesTheTargetCState :
    (0xF0#32).extractLsb' 4 4 = 0xF#4 ∧ (0xE0#32).extractLsb' 4 4 ≠ 0xF#4 := by decide

/-- The processor's turn unlisted, and listed before another. -/
theorem test_witness_WaitingProcessorExecutesNothing :
    ((waiting 5).run = .optimized 0x10 5 ∧ (waiting 5).ProcessorMoves)
      ∧ (((waiting 5).setAgenda [.processor, .raise .nmi]).run = .optimized 0x10 5
        ∧ ((waiting 5).setAgenda [.processor, .raise .nmi]).ProcessorMoves) :=
  ⟨⟨rfl, .inl rfl⟩, rfl, .inr ⟨_, rfl⟩⟩

/-- Each disjunct: a triggered monitor (B1), NMI (B5), SMI (B9), the five of B10, a deliverable interrupt
(B6) and a masked one with bit 0 (B8); and the two that are no break event (B4, B7). -/
theorem test_witness_NamedBreakEventsEndTheWait :
    ((waiting 0).setMonitor .triggered).BreakEvent 0
      ∧ (waitingFor 4 .nmi).BreakEvent 4 ∧ (waitingFor 4 .smi).BreakEvent 4
      ∧ (waitingFor 4 .debug).BreakEvent 4 ∧ (waitingFor 4 .machineCheck).BreakEvent 4
      ∧ (waitingFor 4 .binit).BreakEvent 4 ∧ (waitingFor 4 .init).BreakEvent 4
      ∧ (waitingFor 4 .reset).BreakEvent 4
      ∧ ({ waitingFor 4 .extInt with intFlag := true } : State).BreakEvent 4
      ∧ (waitingFor 1 .extInt).BreakEvent 1
      ∧ ¬ ((waiting 4).setMonitor .triggered).BreakEvent 4
      ∧ ¬ (waitingFor 4 .extInt).BreakEvent 4
      ∧ (waitingFor 4 .nmi).run = .optimized 0x10 4 ∧ (waitingFor 4 .nmi).agenda = []
      ∧ ((waitingFor 4 .nmi).setAgenda [.processor]).BreakEvent 4
      ∧ ((waitingFor 4 .nmi).setAgenda [.processor]).agenda = [.processor] := by
  simp only [State.BreakEvent]
  and_intros <;> decide

/-- B8, its turn unlisted and listed. -/
theorem test_witness_MaskedInterruptBreaksTheWaitUndelivered :
    (waitingFor 1 .extInt).run = .optimized 0x10 1 ∧ (waitingFor 1 .extInt).agenda = []
      ∧ (waitingFor 1 .extInt).pending.extInt = true ∧ (waitingFor 1 .extInt).intFlag = false
      ∧ (1 : Word64).getLsbD 0 = true
      ∧ ((waitingFor 1 .extInt).setAgenda [.processor]).agenda = [.processor] := by decide

/-- B11. -/
theorem test_witness_ImplementationDependentWakeIsAllowedNotForced :
    (waiting 4).run = .optimized 0x10 4 ∧ (waiting 4).agenda = []
      ∧ ((waiting 4).setAgenda [.processor]).agenda = [.processor] ∧ yes.wake = true
      ∧ no.wake = false ∧ ¬ (waiting 4).BreakEvent 4 := by
  simp only [State.BreakEvent]
  and_intros <;> decide

/-- B1, at the last byte of the range; the processor's turn after it unlisted and listed. -/
theorem test_witness_OtherProcessorsStoreEndsAMonitoredWait :
    let s := (waiting 0).setAgenda [.store .otherProcessor 0x303F [1#8]]
    s.run = .optimized 0x10 0 ∧ (0 : Word64).getLsbD 2 = false ∧ s.monitor = .armed range0
      ∧ range0.Hit 0x303F [1#8].length ∧ s.agenda = .store .otherProcessor 0x303F [1#8] :: []
      ∧ (s.setAgenda []).ProcessorMoves ∧ (s.setAgenda [.processor, .raise .smi]).ProcessorMoves :=
  ⟨rfl, by decide, rfl, ⟨0x303F, by decide⟩, rfl, .inl rfl, .inr ⟨_, rfl⟩⟩

/-- A wait entered with a machine check pending, woken by it; it is delivered at the boundary. -/
theorem test_witness_NoRestartAtMwait :
    let s := armed.setPending (Pending.none.set true .machineCheck)
    let t := mwaitIssue yes s
    mwaitWith yes s = .next t ∧ t.run = .optimized 0 0
      ∧ (waitTurn no 0 t).run = .executing
      ∧ ∃ v, step (waitTurn no 0 t) = .fault (.event .machineCheck v) := by
  exact ⟨rfl, rfl, rfl, _,
    step_of_boundaryEvent (.inl rfl) rfl (boundaryEvent_single (k := .machineCheck) rfl rfl)⟩

/-- CPUID is stepped, and goes on executing; the other case is that of a draw. -/
theorem test_witness_OnlyMwaitEntersTheOptimizedState :
    (holding 16 0x0FA2).run = .executing
      ∧ step (holding 16 0x0FA2)
        = .next (cpuidResult (holding 16 0x0FA2).draw (holding 16 0x0FA2)) := ⟨rfl, rfl⟩

/-- A machine check pending at a boundary is delivered, whatever the draws, on an unlisted and on a
listed turn. -/
theorem test_witness_BoundaryDeliversPendingUnmaskedEvents :
    let s := base.setPending (Pending.none.set true .machineCheck)
    (s.ProcessorMoves ∧ s.run = .executing ∧ step s = .fault (.event .machineCheck base))
      ∧ step (s.setAgenda [.processor, .raise .smi])
        = .fault (.event .machineCheck (base.setAgenda [.raise .smi]))
      ∧ (s.pending.has .machineCheck = true ∧ s.masked .machineCheck = false) := by
  exact ⟨⟨.inl rfl, rfl, step_of_boundaryEvent (.inl rfl) rfl
      (boundaryEvent_single (k := .machineCheck) rfl rfl)⟩,
    step_of_boundaryEvent (.inr ⟨_, rfl⟩) rfl (boundaryEvent_single (k := .machineCheck) rfl rfl),
    rfl, rfl⟩

theorem test_witness_RaisedEventBecomesPending :
    (base.setAgenda [.raise .smi, .processor]).agenda = .raise .smi :: [.processor] := rfl

theorem test_witness_MonitorArmsARangeAroundTheAddress :
    base.miscEnable = true ∧ base.cfg.monitorHw = true := ⟨rfl, rfl⟩

/-- The lowest and the highest base around 3000H. -/
theorem test_witness_EveryPlacementOfTheRangeIsAdmitted :
    let s : State := { base with eax := 0x3000 }
    (0x2FC1 ≤ s.eax.toNat ∧ s.eax.toNat < 0x2FC1 + s.cfg.rangeSize)
      ∧ (0x3000 ≤ s.eax.toNat ∧ s.eax.toNat < 0x3000 + s.cfg.rangeSize) := by decide

/-- P6, and bit 18 clear. -/
theorem test_witness_UnsupportedMonitorIsInvalidOpcode :
    (vec .protectedMode 0 (bits false true true true) 0).bitMonitor = false
      ∧ (base.setMiscEnable false).miscEnable = false := ⟨rfl, rfl⟩

/-- M2 at the first byte of the range, partly overlapping; and the waiting case. -/
theorem test_witness_StoreToTheArmedRangeTriggers :
    ((armed.setAgenda [.store .nonProcessor 0x2FFF [1#8, 2#8]]).agenda
          = .store .nonProcessor 0x2FFF [1#8, 2#8] :: []
        ∧ armed.monitor = .armed range0 ∧ range0.Hit 0x2FFF [1#8, 2#8].length
        ∧ armed.run = .executing)
      ∧ (waiting 0).monitor = .armed range0 :=
  ⟨⟨rfl, rfl, ⟨0x3000, by decide⟩, rfl⟩, rfl⟩

/-- M3: the store ends just below the range, or begins just above it; and the waiting processor's own
store. -/
theorem test_witness_StoreFrame :
    let s := armed.setAgenda [.store .otherProcessor 0x2FFF [1#8]]
    s.agenda = .store .otherProcessor 0x2FFF [1#8] :: []
      ∧ step s = .next (agentStore (Config.draw 0) .otherProcessor 0x2FFF [1#8] (s.setAgenda []))
      ∧ ((waiting 0).setAgenda [.store .thisProcessor 0x3000 [1#8]]).agenda
          = .store .thisProcessor 0x3000 [1#8] :: []
      ∧ ((waiting 0).setAgenda [.store .thisProcessor 0x3000 [1#8]]).run = .optimized 0x10 0
      ∧ ¬ range0.Hit 0x2FFF [1#8].length ∧ ¬ range0.Hit 0x3040 [1#8].length := by
  refine ⟨rfl, rfl, rfl, rfl, ?_, ?_⟩ <;> rintro ⟨x, h⟩ <;> simp [range0] at h <;> omega

/-- B2. -/
theorem test_witness_NonProcessorStoreDuringAWaitDraws :
    (waiting 0).run = .optimized 0x10 0 ∧ (waiting 0).monitor = .armed range0
      ∧ range0.Hit 0x3000 [1#8].length := ⟨rfl, rfl, ⟨0x3000, by decide⟩⟩

/-- P2 case D, and case B. -/
theorem test_witness_StoreAfterArmingIsNeverLost :
    (let s := armed.setAgenda [.store .otherProcessor 0x3000 [1#8]]
     s.agenda = [.store .otherProcessor 0x3000 [1#8]] ∧ s.run = .executing
      ∧ s.monitor = .armed range0 ∧ range0.Hit 0x3000 [1#8].length
      ∧ step s = .next (agentStore (Config.draw 0) .otherProcessor 0x3000 [1#8] armed)
      ∧ (agentStore (Config.draw 0) .otherProcessor 0x3000 [1#8] armed).MwaitPasses
      ∧ (agentStore (Config.draw 0) .otherProcessor 0x3000 [1#8] armed).ecx.getLsbD 2 = false)
    ∧ (let s := base.setAgenda [.store .otherProcessor 0x3000 [1#8]]
       s.agenda = [.store .otherProcessor 0x3000 [1#8]] ∧ s.run = .executing
        ∧ ∀ r, s.monitor ≠ .armed r) :=
  ⟨⟨rfl, rfl, rfl, ⟨0x3000, by decide⟩, rfl, test_base_passes, by decide⟩, rfl, rfl, nofun⟩

/-- P2 case G. -/
theorem test_witness_StoreBeforeArmingMayBeWaitedFor :
    base.run = .executing ∧ base.MwaitPasses ∧ base.ecx.getLsbD 2 = false
      ∧ 0 < base.cfg.rangeSize ∧ base.pending = .none ∧ yes.arm = true ∧ yes.enter = true :=
  ⟨rfl, test_base_passes, by decide, by decide, rfl, rfl, rfl⟩

/-- E2: leaf 01H, leaf 07H with sub-leaf 01H, leaf 05H. -/
theorem test_witness_CpuidReportsTheNamedBits :
    ({ base with eax := 0x01#32 } : State).eax = 0x01#32
      ∧ (({ base with eax := 0x07#32, rcx := 1 } : State).eax = 0x07#32
        ∧ ({ base with eax := 0x07#32, rcx := 1 } : State).ecx = 0x01#32)
      ∧ (({ base with eax := 0x05#32 } : State).eax = 0x05#32
        ∧ (base.cfg.monitorHw && base.miscEnable) = true) := by decide

/-- Bits whose freedom the statement gives in the leaves with named bits: CPUID.05H:ECX[2], bit 3 of an
unsupported leaf 05H, bit 23 of leaf 07H with sub-leaf 00H. -/
theorem test_witness_UnnamedCpuidBitsAreFree :
    ¬ (2 = 0 ∨ 2 = 1 ∨ 2 = 3) ∧ (base.setMiscEnable false).leaf05 = false
      ∧ ¬ (({ base with eax := 0x07#32 } : State).ecx = 0x01#32) := by decide

/-- Each row of the matrix with an outcome of its own. -/
theorem test_witness_SupportMatrix :
    (base.mode ≠ .v8086 ∧ base.cpl = 0 ∧ base.cfg.faultPriority = .udFirst)
      ∧ (base.bitMonitor = true ∧ base.ext = 0)
      ∧ (let s := vec .protectedMode 0 (bits false false true true) 0
         s.bitMonitor = false ∧ s.bitMwait = false)
      ∧ (let s := vec .protectedMode 0 (bits false true true true) 0
         s.ext = 0 ∧ s.bitMonitor = false ∧ s.bitMwait = true)
      ∧ (let s := vec .protectedMode 0 (bits false true true true) 4
         s.ext = 4 ∧ s.bitMwait = true ∧ s.bitMonitorless = true)
      ∧ (let s := vec .protectedMode 0 (bits true false false true) 4
         s.ext = 4 ∧ s.bitMonitor = true ∧ s.bitMonitorless = false) := by decide

/-- E5; its CPUID leaves 01H and 07H. -/
theorem test_witness_ClearedEnableBitDisablesBoth :
    let s := base.setMiscEnable false
    s.miscEnable = false ∧ s.cfg.faultPriority = .udFirst
      ∧ exec .cpuid { s with eax := 0x01#32 }
        = .next (cpuidResult (Config.draw 0) { s with eax := 0x01#32 })
      ∧ exec .cpuid { s with eax := 0x07#32, rcx := 1 }
        = .next (cpuidResult (Config.draw 0) { s with eax := 0x07#32, rcx := 1 }) :=
  ⟨rfl, rfl, rfl, rfl⟩

theorem test_witness_EnableBitWriteTakesEffectAtOnce :
    ((armed.setAgenda [.writeMiscEnable false]).agenda = .writeMiscEnable false :: []
        ∧ (armed.setAgenda [.writeMiscEnable false]).run = .executing)
      ∧ (((waiting 0).setAgenda [.writeMiscEnable true]).agenda = .writeMiscEnable true :: []
        ∧ ((waiting 0).setAgenda [.writeMiscEnable true]).run = .optimized 0x10 0) :=
  ⟨⟨rfl, rfl⟩, rfl, rfl⟩

theorem test_witness_DiscoveryIsSound :
    (base.mode ≠ .v8086 ∧ base.cpl = 0 ∧ base.miscEnable = true
        ∧ base.offersMonitoredPair = true ∧ base.ext = 0)
      ∧ ((vec .protectedMode 0 (bits true false true true) 4).offersMonitorless = true
        ∧ (vec .protectedMode 0 (bits true false true true) 4).ext = 4) := by decide

/-- Two cores that differ in a bit of which R57 says nothing. -/
theorem test_witness_HybridCoresEnumerateAlike :
    let c : Config := { Config.standard with ibe := false }
    Config.hybridConsistent [Config.standard, c] = true ∧ Config.standard ∈ [Config.standard, c]
      ∧ c ∈ [Config.standard, c] ∧ base.miscEnable = ({ base with cfg := c } : State).miscEnable :=
  by decide

/-- S5, with ECX = 4 and both instructions intercepted; and outside a guest. -/
theorem test_witness_GuestCannotTellTheVirtualizedFeature :
    let s := vec .protectedMode 0 (guestConfig Config.standard ⟨true, true⟩) 4
    s.cfg = guestConfig Config.standard ⟨true, true⟩ ∧ s.intercepted .mwait = true
      ∧ base.cfg.vmmIntercept = none ∧ s.miscEnable = true ∧ s.mode ≠ .v8086 ∧ s.cpl = 0
      ∧ extReserved s.ext = false ∧ (s.ecx.getLsbD 0 = true → s.bitIbe = true) := by decide

/-- Of the four whole-machine rules: a step of CPUID, and of system software's write. -/
theorem test_witness_WholeMachineRules :
    step (holding 16 0x0FA2) = .next (cpuidResult (Config.draw 0) (holding 16 0x0FA2))
      ∧ step (armed.setAgenda [.writeMiscEnable true])
        = .next (writeMiscEnable (Config.draw 0) true armed)
      ∧ step (armed.setAgenda [.store .thisProcessor 0 [7#8]])
        = .next (agentStore (Config.draw 0) .thisProcessor 0 [7#8] armed) := ⟨rfl, rfl, rfl⟩

end Sys2Proof.Tests
end

section
/-! SUPPORT. Proofs of the family 10_state.md: what one step does to the processor's state (reset, registers,
bit 18, the wait, a raised event). -/

namespace Sys2Proof.Machine

/-! ## Agreement between a state and the one an operation makes of it -/

theorem SameRegs.trans {s t u : State} (hst : SameRegs s t) (htu : SameRegs t u) : SameRegs s u := by
  obtain ⟨ha, hb, hc, hd⟩ := hst
  obtain ⟨ha', hb', hc', hd'⟩ := htu
  exact ⟨ha'.trans ha, hb'.trans hb, hc'.trans hc, hd'.trans hd⟩

theorem SameSystem.trans {s t u : State} (hst : SameSystem s t) (htu : SameSystem t u) :
    SameSystem s u := by
  obtain ⟨hi, hl, hm, he, hc⟩ := hst
  obtain ⟨hi', hl', hm', he', hc'⟩ := htu
  exact ⟨hi'.trans hi, hl'.trans hl, hm'.trans hm, he'.trans he, hc'.trans hc⟩

theorem sameRegs_setAgenda (s : State) (l : List Turn) : SameRegs s (s.setAgenda l) :=
  ⟨rfl, rfl, rfl, rfl⟩

theorem sameSystem_setAgenda (s : State) (l : List Turn) : SameSystem s (s.setAgenda l) :=
  ⟨rfl, rfl, rfl, rfl, rfl⟩

theorem sameRegs_afterBoundary (s : State) : SameRegs s (afterBoundary s) := by
  rcases afterBoundary_eq s with h | h <;> rw [h] <;> exact ⟨rfl, rfl, rfl, rfl⟩

theorem sameSystem_afterBoundary (s : State) : SameSystem s (afterBoundary s) := by
  rcases afterBoundary_eq s with h | h <;> rw [h] <;> exact ⟨rfl, rfl, rfl, rfl, rfl⟩

theorem sameRegs_waitTurn (d : Draw) (e : Word64) (s : State) : SameRegs s (waitTurn d e s) := by
  simp [SameRegs]

theorem sameSystem_waitTurn (d : Draw) (e : Word64) (s : State) : SameSystem s (waitTurn d e s) := by
  simp [SameSystem]

theorem sameRegs_mwaitIssue (d : Draw) (s : State) : SameRegs s (mwaitIssue d s) := by
  simp [SameRegs]

/-- No instruction that completes writes the flag, the level, the mode, bit 18 or the configuration. -/
theorem sameSystem_of_exec_next {i : Instr} {s t : State} (h : exec i s = .next t) :
    SameSystem s t := by
  rcases exec_next_cases h with ⟨-, -, rfl⟩ | ⟨-, -, -, rfl⟩ | ⟨-, rfl⟩ <;> simp [SameSystem]

/-- Of the instructions only CPUID writes a general register (10_state.md R13). -/
theorem sameRegs_or_cpuid_of_exec_next {i : Instr} {s t : State} (h : exec i s = .next t) :
    SameRegs s t ∨ i = .cpuid := by
  rcases exec_next_cases h with ⟨-, -, rfl⟩ | ⟨-, -, -, rfl⟩ | ⟨hi, -⟩
  · exact .inl (sameRegs_mwaitIssue ..)
  · exact .inl ⟨rfl, rfl, rfl, rfl⟩
  · exact .inr hi

/-- The boundary moves neither pc nor memory, so the same instruction stands at pc after it. -/
theorem holdsAtPc_of_afterBoundary {s : State} {i : Instr} (h : (afterBoundary s).HoldsAtPc i) :
    s.HoldsAtPc i := by
  rcases afterBoundary_eq s with hs | hs <;> rw [hs] at h <;> exact h

/-! ## Everything a step can do -/

/-- Everything a step that answers a next state can do: a waiting processor goes on or wakes, an executing
one completes the instruction at pc, an agent stores, the platform raises an event, or system software
writes bit 18 (10_state.md R10). -/
theorem step_next_cases {s t : State} (h : step s = .next t) :
    (s.ProcessorMoves ∧ ∃ hint e, s.run = .optimized hint e ∧
      t = waitTurn s.draw e (s.setAgenda s.agenda.tail)) ∨
    (s.ProcessorMoves ∧ s.run = .executing ∧ boundaryEvent s.draw s = none ∧ ∃ i, s.HoldsAtPc i ∧
      exec i (afterBoundary (s.setAgenda s.agenda.tail)) = .next t) ∨
    (∃ g a bs rest, s.agenda = .store g a bs :: rest ∧ (s.waiting = false ∨ g ≠ .thisProcessor) ∧
      t = agentStore s.draw g a bs (s.setAgenda rest)) ∨
    (∃ k rest, s.agenda = .raise k :: rest ∧
      t = (s.setAgenda rest).setPending (s.pending.set true k)) ∨
    (∃ b rest, s.agenda = .writeMiscEnable b :: rest ∧ s.run = .executing ∧
      t = writeMiscEnable s.draw b (s.setAgenda rest)) := by
  rw [step_eq] at h
  rcases turnStep_next_cases h with
    ⟨hu, hp⟩ | ⟨g, a, bs, hu, hg, rfl⟩ | ⟨k, hu, rfl⟩ | ⟨b, hu, hw, rfl⟩
  · have hmoves := firstTurn_eq_processor_iff.mp hu
    rcases processorStep_next_cases hp with ⟨hint, e, hr, rfl⟩ | ⟨hr, hb, i, hf, hx⟩
    · exact .inl ⟨hmoves, hint, e, hr, rfl⟩
    · have hpc : (s.setAgenda s.agenda.tail).HoldsAtPc i :=
        holdsAtPc_of_afterBoundary (holdsAtPc_of_fetch hf)
      exact .inr (.inl ⟨hmoves, hr, hb, i, hpc, hx⟩)
  · exact .inr (.inr (.inl ⟨g, a, bs, _, agenda_of_firstTurn hu nofun, hg, rfl⟩))
  · exact .inr (.inr (.inr (.inl ⟨k, _, agenda_of_firstTurn hu nofun, rfl⟩)))
  · have hr : s.run = .executing := s.waiting_eq_false_iff.mp hw
    exact .inr (.inr (.inr (.inr ⟨b, _, agenda_of_firstTurn hu nofun, hr, rfl⟩)))

/-! ## Who writes bit 18 and the general registers -/

/-- Settles O53: of everything a step can do, only system software's turn writes bit 18. -/
theorem onlySystemSoftwareWritesTheEnableBit : Obligations.OnlySystemSoftwareWritesTheEnableBit := by
  intro s t h
  rcases step_next_cases h with ⟨-, hint, e, -, rfl⟩ | ⟨-, -, -, i, -, hx⟩ |
    ⟨g, a, bs, rest, -, -, rfl⟩ | ⟨k, rest, -, rfl⟩ | ⟨b, rest, ha, hr, rfl⟩
  case inr.inl =>
    have hsys : SameSystem s t := ((sameSystem_setAgenda s _).trans (sameSystem_afterBoundary _)).trans
      (sameSystem_of_exec_next hx)
    obtain ⟨-, -, -, hbit, -⟩ := hsys
    exact .inl hbit
  case inr.inr.inr.inr => exact .inr ⟨hr, b, rest, ha, writeMiscEnable_miscEnable ..⟩
  all_goals exact .inl (by simp)

/-- Settles O55: of everything a step can do, only the instruction at pc can write a register, and of the
instructions only CPUID does. -/
theorem onlyCpuidWritesGeneralRegisters : Obligations.OnlyCpuidWritesGeneralRegisters := by
  intro s t h
  rcases step_next_cases h with ⟨-, hint, e, -, rfl⟩ | ⟨hm, hr, -, i, hpc, hx⟩ |
    ⟨g, a, bs, rest, -, -, rfl⟩ | ⟨k, rest, -, rfl⟩ | ⟨b, rest, -, -, rfl⟩
  case inr.inl =>
    rcases sameRegs_or_cpuid_of_exec_next hx with hregs | rfl
    · exact .inl (((sameRegs_setAgenda s _).trans (sameRegs_afterBoundary _)).trans hregs)
    · exact .inr ⟨hm, hr, hpc⟩
  all_goals exact .inl (by simp [SameRegs])

/-! ## The registers MWAIT reads -/

/-- MWAIT's issue passes other values of EBX and EDX through: neither the choice between waiting and
completing nor what is recorded reads them. -/
theorem mwaitIssue_withEbxEdx (d : Draw) (s : State) (b v : Word32) :
    mwaitIssue d { s with ebx := b, edx := v } = { mwaitIssue d s with ebx := b, edx := v } := by
  unfold mwaitIssue
  change (if mwaitCanWait s && d.enter then _ else _) = _
  split <;> rfl

/-- Settles O56: the checks and the issue agree in the two states, for they differ in EBX and EDX alone. -/
theorem mwaitReadsNoRegisterButEaxAndRcx : Obligations.MwaitReadsNoRegisterButEaxAndRcx := by
  intro s b v
  obtain ⟨hud, hgp⟩ := mwaitWith_fault_congr s.draw (s := s) (t := { s with ebx := b, edx := v })
    rfl rfl rfl rfl
  refine ⟨fun t h => ?_, hud, hgp⟩
  obtain ⟨hpass, rfl⟩ := mwaitWith_next (d := s.draw) h
  have hpass' : State.MwaitPasses { s with ebx := b, edx := v } :=
    (State.mwaitPasses_congr rfl rfl rfl rfl rfl).mpr hpass
  refine ⟨sameRegs_mwaitIssue .., ?_⟩
  rw [← mwaitIssue_withEbxEdx]
  exact mwaitWith_passes s.draw hpass'

/-! ## Reset -/

/-- Settles O1: the fields of the reset state, and its memory, which lists no byte. -/
theorem resetLeavesMonitorIdleAndExecuting : Obligations.ResetLeavesMonitorIdleAndExecuting :=
  fun _ => ⟨rfl, rfl, rfl, rfl, Memory.read_nil⟩

/-- The program counter has at least 16 bits, the narrowest ADDR_WIDTH. -/
theorem State.sixteen_le_width (s : State) : 16 ≤ s.width := by
  unfold State.width; cases s.cfg.addrWidth <;> decide

theorem State.resetWith_inv (c : Config) : (State.resetWith c).Inv where
  mem := rfl
  pc := calc
    (State.resetWith c).pc.toNat < 2 ^ 16 := by simp [State.resetWith]
    _ ≤ 2 ^ (State.resetWith c).width :=
      Nat.pow_le_pow_right (by decide) (State.sixteen_le_width _)
  range := rfl
  wait := rfl

/-- Settles O2: the standard configuration is one of all. -/
theorem resetMeetsTheInvariant : Obligations.ResetMeetsTheInvariant :=
  ⟨State.resetWith_inv _, State.resetWith_inv⟩

/-! ## The waiting processor's turn and the platform's -/

/-- A waiting processor's turn leaves it waiting with its monitor, or executing (41_mwait.md R69 to R71). -/
theorem waitTurn_waits_or_executes (d : Draw) (e : Word64) (s : State) :
    ((waitTurn d e s).run = s.run ∧ (waitTurn d e s).monitor = s.monitor) ∨
      (waitTurn d e s).run = .executing := by
  rcases waitTurn_cases d e s with h | ⟨-, -, h⟩ <;> rw [h]
  · exact .inr (mwaitWake_run ..)
  · exact .inl ⟨rfl, rfl⟩

/-- Settles O25: the step is the wait turn, whose frame gives every clause. -/
theorem waitingProcessorExecutesNothing : Obligations.WaitingProcessorExecutesNothing := by
  intro s hint e hr hm
  refine ⟨_, step_of_waiting hr hm, waitTurn_pc .., sameRegs_waitTurn .., sameSystem_waitTurn ..,
    fun a => ?_, waitTurn_pending .., waitTurn_agenda .., waitTurn_waits_or_executes ..⟩
  rw [waitTurn_mem, State.setAgenda_mem]

/-- Settles O33: the step is the platform's turn, which sets the one kind. -/
theorem raisedEventBecomesPending : Obligations.RaisedEventBecomesPending := by
  intro s k rest ha
  refine ⟨(s.setAgenda rest).setPending (s.pending.set true k), step_of_cons ha, ?_, fun j hj => ?_, rfl⟩
  · rw [State.setPending_pending, Pending.has_set, if_pos rfl]
  · rw [State.setPending_pending, Pending.has_set, if_neg hj]

end Sys2Proof.Machine
end

section
/-! SUPPORT. Proofs of the family 20_memory.md: an agent's store, as memory and the monitor see it, the wait
it ends, and the ranges MONITOR can arm. -/

namespace Sys2Proof.Machine

/-! ## The step of an agent's store -/

/-- A store is made unless the waiting processor itself would make it (20_memory.md R32, 10_state.md R22). -/
theorem step_of_store {s : State} {g : Agent} {a : Nat} {bs : List Byte} {rest : List Turn}
    (ha : s.agenda = .store g a bs :: rest) (hg : s.run = .executing ∨ g ≠ .thisProcessor) :
    step s = .next (agentStore s.draw g a bs (s.setAgenda rest)) := by
  have hmade : ¬ (s.waiting && g == .thisProcessor) = true := by
    rcases hg with hr | hg
    · simp [s.waiting_eq_false_iff.mpr hr]
    · simp [hg]
  rw [step_of_cons ha]
  exact if_neg hmade

theorem step_of_ownStore_waiting {s : State} {a : Nat} {bs : List Byte} {rest : List Turn}
    {hint : Word32} {e : Word64} (ha : s.agenda = .store .thisProcessor a bs :: rest)
    (hr : s.run = .optimized hint e) : step s = .refused .ownStoreWhileWaiting := by
  have hw : s.waiting = true := by simp [State.waiting, hr]
  rw [step_of_cons ha]
  exact if_pos (by simp [hw])

/-- The next state of a store's turn is that of the store. -/
theorem eq_agentStore_of_step {s t : State} {g : Agent} {a : Nat} {bs : List Byte} {rest : List Turn}
    (ha : s.agenda = .store g a bs :: rest) (h : step s = .next t) :
    t = agentStore s.draw g a bs (s.setAgenda rest) := by
  rw [step_of_cons ha] at h
  rcases turnStep_next_cases h with ⟨hu, -⟩ | ⟨_, _, _, hu, -, rfl⟩ | ⟨_, hu, -⟩ | ⟨_, hu, -⟩ <;> cases hu
  rfl

/-! ## What a store does to the monitor -/

/-- A store that hits the armed range triggers the monitor, unless a non-processor agent makes it during a
wait (20_memory.md R32, R33). -/
theorem agentStore_monitor_of_hit (d : Draw) {g : Agent} {a : Nat} {bs : List Byte} {s : State} {r : Range}
    (hm : s.monitor = .armed r) (hit : r.Hit a bs.length) (hg : s.run = .executing ∨ g ≠ .nonProcessor) :
    (agentStore d g a bs s).monitor = .triggered := by
  rw [agentStore_monitor, hm]
  exact storeMonitor_hit ((r.hit_iff ..).mp hit) (hg.imp_left s.waiting_eq_false_iff.mpr)

theorem agentStore_monitor_of_not_hit (d : Draw) (g : Agent) {a : Nat} {bs : List Byte} {s : State}
    (hm : ∀ r, s.monitor = .armed r → ¬ r.Hit a bs.length) :
    (agentStore d g a bs s).monitor = s.monitor := by
  rw [agentStore_monitor]
  rcases storeMonitor_cases d s.waiting g a bs.length s.monitor with h | ⟨-, r, hr, hover⟩
  · exact h
  · exact absurd ((r.hit_iff ..).mpr hover) (hm r hr)

/-- During a wait the draw decides whether a non-processor agent's store to the armed range triggers the
monitor (20_memory.md R33, D16). -/
theorem agentStore_nonProcessor_waiting (d : Draw) {a : Nat} {bs : List Byte} {s : State} {r : Range}
    {hint : Word32} {e : Word64} (hr : s.run = .optimized hint e) (hm : s.monitor = .armed r)
    (hit : r.Hit a bs.length) :
    (agentStore d .nonProcessor a bs s).monitor = if d.storeTriggers then .triggered else .armed r := by
  simp [storeMonitor, State.waiting, hr, hm, (r.hit_iff ..).mp hit]

/-! ## What a triggered monitor does to a monitored MWAIT -/

theorem completedMonitor_of_monitored (d : Draw) {e : Word64} (m : Monitor) (he : e.getLsbD 2 = false) :
    completedMonitor d e m = .triggered := by
  rcases completedMonitor_cases d e m with h | ⟨hl, -⟩
  · exact h
  · exact absurd (he.symm.trans hl) (by decide)

/-- A named break event wakes the waiting processor in its turn (41_mwait.md R69). -/
theorem waitTurn_of_breakEvent (d : Draw) {e : Word64} {s : State} (h : s.BreakEvent e) :
    waitTurn d e s = mwaitWake d e s := by
  rcases waitTurn_cases d e s with hw | ⟨hn, -, -⟩
  · exact hw
  · exact absurd (((namedBreak_iff s e).mpr h).symm.trans hn) (by decide)

theorem step_of_waiting_breakEvent {s : State} {hint : Word32} {e : Word64}
    (hr : s.run = .optimized hint e) (hm : s.ProcessorMoves) (hb : s.BreakEvent e) :
    step s = .next (mwaitWake s.draw e (s.setAgenda s.agenda.tail)) := by
  have hb' : (s.setAgenda s.agenda.tail).BreakEvent e := hb
  rw [step_of_waiting hr hm, waitTurn_of_breakEvent _ hb']

/-- Where the monitor is not armed, a monitored MWAIT does not enter the optimized state
(41_mwait.md R64). -/
theorem mwaitIssue_run_of_not_armed (d : Draw) {s : State} (he : s.ecx.getLsbD 2 = false)
    (hm : ∀ r, s.monitor ≠ .armed r) : (mwaitIssue d s).run = s.run := by
  rcases mwaitIssue_cases d s with ⟨hw, -, -⟩ | ⟨-, h⟩
  · rcases (mwaitCanWait_iff s).mp hw with hl | ⟨r, hr⟩
    · exact absurd (he.symm.trans hl) (by decide)
    · exact absurd hr (hm r)
  · rw [h]; rfl

/-! ## The obligations about stores and the monitor -/

/-- Settles O38: the store is made, and it hits the armed range. -/
theorem storeToTheArmedRangeTriggers : Obligations.StoreToTheArmedRangeTriggers := by
  intro s g a bs rest r ha hm hit hg
  exact ⟨_, step_of_store ha (hg.imp_right (by rintro rfl; decide)),
    agentStore_monitor_of_hit (s := s.setAgenda rest) _ hm hit (hg.imp_right (by rintro rfl; decide)),
    rfl, rfl⟩

/-- Settles O29: the store triggers the monitor, which is a break event of the monitored wait. -/
theorem otherProcessorsStoreEndsAMonitoredWait : Obligations.OtherProcessorsStoreEndsAMonitoredWait := by
  intro s hint e r a bs rest hr he hm hit ha hmoves
  obtain ⟨t, hstep, htrig, hrun, hpc⟩ :=
    storeToTheArmedRangeTriggers s .otherProcessor a bs rest r ha hm hit (.inr rfl)
  have hmoves' : t.ProcessorMoves := by rw [eq_agentStore_of_step ha hstep]; exact hmoves
  exact ⟨t, _, hstep, step_of_waiting_breakEvent (hrun.trans hr) hmoves' (.inl ⟨he, htrig⟩), hrun, rfl,
    completedMonitor_of_monitored _ _ he, hpc⟩

/-- Settles O39: where the turn answers, its state is the store's, whose frame gives every clause; it does
not answer only for the waiting processor's own store. -/
theorem storeFrame : Obligations.StoreFrame := by
  constructor
  · intro s t g a bs rest ha h
    obtain rfl := eq_agentStore_of_step ha h
    exact ⟨fun k hk => agentStore_read_inside _ _ _ _ _ hk, fun x hx => agentStore_read_outside _ _ _ _ _ hx,
      ⟨rfl, rfl, rfl, rfl⟩, ⟨rfl, rfl, rfl, rfl, rfl⟩, rfl, rfl, rfl, rfl,
      agentStore_monitor_of_not_hit (s := s.setAgenda rest) _ _⟩
  · intro s g a bs rest ha
    refine ⟨⟨?_, fun h => ?_⟩, ?_⟩
    · rintro ⟨t, ht⟩ ⟨rfl, hint, e, hr⟩
      rw [step_of_ownStore_waiting ha hr] at ht
      cases ht
    · refine ⟨_, step_of_store ha ?_⟩
      cases hr : s.run with
      | executing => exact .inl rfl
      | optimized hint e => exact .inr fun hg => h ⟨hg, hint, e, hr⟩
    · rintro hint e rfl hr
      exact step_of_ownStore_waiting ha hr

/-- Settles O40: each of the two draws. -/
theorem nonProcessorStoreDuringAWaitDraws : Obligations.NonProcessorStoreDuringAWaitDraws := by
  intro s hint e r a bs hr hm hit
  exact ⟨⟨{ (default : Draw) with storeTriggers := true }, agentStore_nonProcessor_waiting _ hr hm hit⟩,
    ⟨{ (default : Draw) with storeTriggers := false }, agentStore_nonProcessor_waiting _ hr hm hit⟩⟩

/-- Settles O41: a store that hits triggers the monitor, and a triggered monitor is not armed, so the
monitored MWAIT after it goes on executing; a monitor that is not armed has no range to hit. -/
theorem storeAfterArmingIsNeverLost : Obligations.StoreAfterArmingIsNeverLost := by
  constructor
  · intro s g a bs rest r ha hr hm hit
    obtain ⟨t, hstep, htrig, hrun, -⟩ := storeToTheArmedRangeTriggers s g a bs rest r ha hm hit (.inl hr)
    obtain ⟨hread, -⟩ := storeFrame.1 s t g a bs rest ha hstep
    refine ⟨t, hstep, htrig, hread, fun hpass he => ⟨_, mwaitWith_passes t.draw hpass, ?_⟩⟩
    calc (mwaitIssue t.draw t).run
      _ = t.run := mwaitIssue_run_of_not_armed _ he (by simp [htrig])
      _ = s.run := hrun
      _ = .executing := hr
  · intro s g a bs rest ha hr hm
    have hunhit : ∀ r, s.monitor = .armed r → ¬ r.Hit a bs.length := fun r hr => absurd hr (hm r)
    exact ⟨_, step_of_store ha (.inl hr), agentStore_monitor_of_not_hit (s := s.setAgenda rest) _ _ hunhit,
      fun k hk => agentStore_read_inside _ _ _ _ _ hk⟩

/-! ## The ranges MONITOR can arm -/

/-- Settles O35: a draw that arms places the range where it says; one that does not arm leaves the monitor
idle. -/
theorem everyPlacementOfTheRangeIsAdmitted : Obligations.EveryPlacementOfTheRangeIsAdmitted := by
  intro s base hle hlt
  refine ⟨⟨{ (default : Draw) with arm := true, placement := s.eax.toNat - base }, ?_⟩,
    ⟨{ (default : Draw) with arm := false }, rfl⟩⟩
  have hsize : 0 < s.cfg.rangeSize := by omega
  simp only [monitorResult_monitor, armedMonitor, hsize, decide_true, Bool.and_self, if_true]
  exact congrArg Monitor.armed (drawnRange_surjective { (default : Draw) with arm := true } hle hlt)

/-! ## Who writes memory -/

@[simp] theorem afterBoundary_mem (s : State) : (afterBoundary s).mem = s.mem := by
  rcases afterBoundary_eq s with h | h <;> simp [h]

/-- No instruction of the table stores (20_memory.md R30). -/
theorem mem_of_exec_next {i : Instr} {s t : State} (h : exec i s = .next t) : t.mem = s.mem := by
  rcases exec_next_cases h with ⟨-, -, rfl⟩ | ⟨-, -, -, rfl⟩ | ⟨-, rfl⟩
  · exact mwaitIssue_mem ..
  · exact monitorResult_mem ..
  · exact cpuidResult_mem ..

/-- Settles O54: of everything a step can do, only an agent's store writes memory. -/
theorem onlyStoresChangeMemory : Obligations.OnlyStoresChangeMemory := by
  intro s t h
  rcases step_next_cases h with ⟨-, hint, e, -, rfl⟩ | ⟨-, -, -, i, -, hx⟩ |
    ⟨g, a, bs, rest, ha, -, rfl⟩ | ⟨k, rest, -, rfl⟩ | ⟨b, rest, -, -, rfl⟩
  case inr.inl => exact .inl ((mem_of_exec_next hx).trans (afterBoundary_mem _))
  case inr.inr.inl => exact .inr ⟨g, a, bs, rest, ha, rfl⟩
  all_goals exact .inl (by simp)

end Sys2Proof.Machine
end

section
/-! SUPPORT. Proofs of the family 30_encoding.md: the decoder accepts the encodings and nothing else, and what
the executing processor's step makes of the bytes at pc. -/

namespace Sys2Proof

/-! ## The decoder -/

/-- An instruction's bytes decode to it, whatever follows them. -/
theorem decode_encode_append (i : Instr) (rest : List Byte) :
    decode (encode i ++ rest) = .ok (i, rest) := by
  cases i <;> rfl

/-- What decodes is the encoding of an instruction and the bytes after it (30_encoding.md R45, D20). -/
theorem decode_eq_ok_iff {bs : List Byte} {i : Instr} {rest : List Byte} :
    decode bs = .ok (i, rest) ↔ bs = encode i ++ rest := by
  constructor
  · intro h
    rcases decode_ok_cases h with ⟨rfl, hbs⟩ | ⟨rfl, hbs⟩ | ⟨rfl, hbs⟩ <;> exact hbs
  · rintro rfl
    exact decode_encode_append i rest

theorem decode_of_ne_escape {b : Byte} (h : b ≠ 0x0F#8) (rest : List Byte) :
    decode (b :: rest) = .error (.notEscape b) := if_neg h

theorem decode_of_unknownSecond {b : Byte} (h01 : b ≠ 0x01#8) (hA2 : b ≠ 0xA2#8) (rest : List Byte) :
    decode (0x0F#8 :: b :: rest) = .error (.unknownSecond b) := by
  simp [decode, decodeEscaped, h01, hA2]

theorem decode_of_unknownThird {b : Byte} (hC8 : b ≠ 0xC8#8) (hC9 : b ≠ 0xC9#8) (rest : List Byte) :
    decode (0x0F#8 :: 0x01#8 :: b :: rest) = .error (.unknownThird b) := by
  simp [decode, decodeEscaped, decodeGroup, hC8, hC9]

/-- A table word that stores the bytes of an instruction first is read as that instruction. -/
theorem decodeTableWord_of_tableBytes {nbits w : Nat} {i : Instr} (rest : List Byte)
    (h : tableBytes nbits w = encode i ++ rest) : decodeTableWord nbits w = some i := by
  rw [decodeTableWord, h, decode_encode_append]

/-- Settles O6: both directions are the decoder's own equivalence. -/
theorem onlyTheTableBytesDecode : Obligations.OnlyTheTableBytesDecode :=
  fun _ _ _ => decode_eq_ok_iff

/-- Settles O5: no condition on the instruction is needed, for each is well formed. -/
theorem encodedInstructionsDecodeToThemselves : Obligations.EncodedInstructionsDecodeToThemselves :=
  fun i rest _ => decode_encode_append i rest

/-- Settles O4: the bytes written out are encodings, and each table word stores one; CPUID's two bytes are
followed by the zero byte that fills its word up. -/
theorem writtenWordsDecode : Obligations.WrittenWordsDecode :=
  ⟨decode_encode_append .mwait [], decode_encode_append .monitor [], decode_encode_append .cpuid [],
    decodeTableWord_of_tableBytes [] rfl, decodeTableWord_of_tableBytes [] rfl,
    decodeTableWord_of_tableBytes [0#8] rfl⟩

end Sys2Proof

namespace Sys2Proof.Machine

/-! ## The bytes at pc -/

/-- The bytes stand in memory at pc, below the top of the address space: `State.HoldsAtPc` for bytes that
need not be an instruction's. -/
def State.ReadsAtPc (s : State) (bs : List Byte) : Prop :=
  s.pc.toNat + bs.length ≤ 2 ^ s.width ∧
    ∀ k, k < bs.length → s.mem.read (s.pc.toNat + k) = bs[k]?

theorem State.holdsAtPc_iff_readsAtPc {s : State} {i : Instr} :
    s.HoldsAtPc i ↔ s.ReadsAtPc (encode i) := Iff.rfl

theorem State.readsAtPc_nil {s : State} (h : s.pc.toNat ≤ 2 ^ s.width) : s.ReadsAtPc [] :=
  ⟨h, nofun⟩

/-- One more byte is read at the address after those read so far. -/
theorem State.ReadsAtPc.concat {s : State} {bs : List Byte} {b : Byte} (h : s.ReadsAtPc bs)
    (hlt : s.pc.toNat + bs.length < 2 ^ s.width) (hb : s.mem.read (s.pc.toNat + bs.length) = some b) :
    s.ReadsAtPc (bs ++ [b]) := by
  obtain ⟨-, hread⟩ := h
  have hlen : (bs ++ [b]).length = bs.length + 1 := List.length_append
  refine ⟨by omega, fun k hk => ?_⟩
  rw [hlen] at hk
  rcases Nat.lt_succ_iff_lt_or_eq.mp hk with hk | rfl
  · rw [hread k hk, List.getElem?_append_left hk]
  · rw [hb, List.getElem?_concat_length]

theorem State.readsAtPc_one {s : State} {b : Byte} (hlt : s.pc.toNat < 2 ^ s.width)
    (h0 : s.mem.read s.pc.toNat = some b) : s.ReadsAtPc [b] :=
  (State.readsAtPc_nil hlt.le).concat hlt h0

theorem State.readsAtPc_two {s : State} {b c : Byte} (hlt : s.pc.toNat + 1 < 2 ^ s.width)
    (h0 : s.mem.read s.pc.toNat = some b) (h1 : s.mem.read (s.pc.toNat + 1) = some c) :
    s.ReadsAtPc [b, c] :=
  (State.readsAtPc_one (by omega) h0).concat hlt h1

theorem State.readsAtPc_three {s : State} {b c d : Byte} (hlt : s.pc.toNat + 2 < 2 ^ s.width)
    (h0 : s.mem.read s.pc.toNat = some b) (h1 : s.mem.read (s.pc.toNat + 1) = some c)
    (h2 : s.mem.read (s.pc.toNat + 2) = some d) : s.ReadsAtPc [b, c, d] :=
  (State.readsAtPc_two (by omega) h0 h1).concat hlt h2

/-- Fetching goes through the bytes that stand in memory and continues after them. -/
theorem fetchBytes_of_reads (m : Memory) (limit n : Nat) :
    ∀ (bs : List Byte) (a : Nat), a + bs.length ≤ limit →
      (∀ k, k < bs.length → m.read (a + k) = bs[k]?) →
      fetchBytes m limit (bs.length + n) a =
        (bs ++ (fetchBytes m limit n (a + bs.length)).1, (fetchBytes m limit n (a + bs.length)).2) := by
  intro bs
  induction bs with
  | nil => intro a _ _; simp
  | cons b bs ih =>
    intro a hlimit hread
    rw [List.length_cons] at hlimit
    have hb : m.read a = some b := by simpa using hread 0 (by simp)
    have htail := ih (a + 1) (by omega) fun k hk => by
      simpa [Nat.add_assoc, Nat.add_comm 1 k] using hread (k + 1) (by simpa using hk)
    rw [List.length_cons, Nat.add_right_comm, fetchBytes, if_neg (by omega), hb]
    simp only [htail, List.cons_append, Nat.add_assoc, Nat.add_comm 1]

theorem State.bytesAtPc_of_readsAtPc {s : State} {bs : List Byte} (h : s.ReadsAtPc bs)
    (hlen : bs.length < maxLength) :
    ∃ n, s.bytesAtPc =
      (bs ++ (fetchBytes s.mem (2 ^ s.width) (n + 1) (s.pc.toNat + bs.length)).1,
        (fetchBytes s.mem (2 ^ s.width) (n + 1) (s.pc.toNat + bs.length)).2) := by
  obtain ⟨hlimit, hread⟩ := h
  obtain ⟨n, hn⟩ := Nat.exists_eq_add_of_lt hlen
  rw [State.bytesAtPc, hn]
  exact ⟨n, fetchBytes_of_reads s.mem _ (n + 1) bs _ hlimit hread⟩

/-- The fetch ends after the bytes read so far where the next one would wrap the top (D4). -/
theorem State.bytesAtPc_of_wraps {s : State} {bs : List Byte} (h : s.ReadsAtPc bs)
    (hlen : bs.length < maxLength) (htop : s.pc.toNat + bs.length = 2 ^ s.width) :
    s.bytesAtPc = (bs, .wraps) := by
  obtain ⟨n, hn⟩ := State.bytesAtPc_of_readsAtPc h hlen
  rw [hn]
  simp [fetchBytes, htop]

/-- The fetch ends after the bytes read so far where nothing has written the next one. -/
theorem State.bytesAtPc_of_unwritten {s : State} {bs : List Byte} (h : s.ReadsAtPc bs)
    (hlen : bs.length < maxLength) (hlt : s.pc.toNat + bs.length < 2 ^ s.width)
    (hnone : s.mem.read (s.pc.toNat + bs.length) = none) :
    s.bytesAtPc = (bs, .unwritten (s.pc.toNat + bs.length)) := by
  obtain ⟨n, hn⟩ := State.bytesAtPc_of_readsAtPc h hlen
  rw [hn]
  simp [fetchBytes, hlt.not_ge, hnone]

/-! ## The step of the executing processor, by the bytes at pc -/

theorem instructionStep_of_holdsAtPc {s : State} {i : Instr} (h : s.HoldsAtPc i) :
    instructionStep s = exec i s := by
  rw [instructionStep, fetch_of_holdsAtPc h]

theorem holdsAtPc_afterBoundary {s : State} {i : Instr} (h : s.HoldsAtPc i) :
    (afterBoundary s).HoldsAtPc i := by
  rcases afterBoundary_eq s with hs | hs <;> rw [hs] <;> exact h

/-- Where nothing is delivered, the step is the instruction at pc, after the draw that decided so. -/
theorem step_of_holdsAtPc {s : State} {i : Instr} (hm : s.ProcessorMoves) (hr : s.run = .executing)
    (hb : boundaryEvent s.draw s = none) (h : s.HoldsAtPc i) :
    step s = exec i (afterBoundary (s.setAgenda s.agenda.tail)) := by
  have hpc : (s.setAgenda s.agenda.tail).HoldsAtPc i := h
  rw [step_of_no_boundaryEvent hm hr hb, instructionStep_of_holdsAtPc (holdsAtPc_afterBoundary hpc)]

/-- Taking the rest of an empty agenda changes nothing. -/
theorem State.setAgenda_tail_of_nil {s : State} (h : s.agenda = []) :
    s.setAgenda s.agenda.tail = s := by
  rw [h, List.tail_nil, ← h]; rfl

/-- Settles O7: the step is exec after the boundary, which takes a draw exactly where an event is
deliverable, of the state without the turn taken. -/
theorem stepRunsTheDecodedInstruction : Obligations.StepRunsTheDecodedInstruction := by
  intro s i _ hr hpc
  refine ⟨fun ha hd => ?_, fun ha hd hb => ?_, fun rest ha hd => ?_, fun rest ha hd hb => ?_⟩
  · rw [step_of_holdsAtPc (.inl ha) hr (boundaryEvent_nil hd) hpc, State.setAgenda_tail_of_nil ha,
      afterBoundary_of_nil hd]
  · rw [step_of_holdsAtPc (.inl ha) hr hb hpc, State.setAgenda_tail_of_nil ha,
      afterBoundary_of_ne_nil hd]
  · rw [step_of_holdsAtPc (.inr ⟨rest, ha⟩) hr (boundaryEvent_nil hd) hpc, ha]
    exact congrArg (exec i) (afterBoundary_of_nil (s := s.setAgenda rest) hd)
  · rw [step_of_holdsAtPc (.inr ⟨rest, ha⟩) hr hb hpc, ha]
    exact congrArg (exec i) (afterBoundary_of_ne_nil (s := s.setAgenda rest) hd)

section

variable {s : State} {bs : List Byte} (hm : s.ProcessorMoves) (hr : s.run = .executing)
  (hd : s.deliverable = []) (hbs : s.ReadsAtPc bs)
include hm hr hd hbs

/-- Bytes at pc that the decoder rejects by name, whatever follows them, are refused by that name
(30_encoding.md R45). -/
theorem step_of_decode_error {e : DecodeError} (hlen : bs.length ≤ maxLength) (he : e ≠ .truncated)
    (hdec : ∀ rest, decode (bs ++ rest) = .error e) : step s = .refused (.noMeaning e) := by
  obtain ⟨hlimit, hread⟩ := hbs
  obtain ⟨rest, hrest⟩ := fetchBytes_take s.mem (2 ^ s.width) maxLength s.pc.toNat bs hlen hlimit hread
  have hdecode : decode (s.setAgenda s.agenda.tail).bytesAtPc.1 = .error e :=
    (congrArg decode hrest).trans (hdec rest)
  rw [step_of_executing hm hr hd, instructionStep, fetch, hdecode]
  cases e with
  | truncated => exact absurd rfl he
  | notEscape b | unknownSecond b | unknownThird b => rfl

/-- Bytes at pc that are no whole instruction, and end at the top of the address space, are refused. -/
theorem step_of_wraps (hdec : decode bs = .error .truncated) (hlen : bs.length < maxLength)
    (htop : s.pc.toNat + bs.length = 2 ^ s.width) : step s = .refused .fetchWraps := by
  have hbytes : (s.setAgenda s.agenda.tail).bytesAtPc = (bs, .wraps) :=
    State.bytesAtPc_of_wraps hbs hlen htop
  rw [step_of_executing hm hr hd, instructionStep, fetch, hbytes, hdec]

/-- Bytes at pc that are no whole instruction, and end at a byte that nothing has written, fault there. -/
theorem step_of_unwritten (hdec : decode bs = .error .truncated) (hlen : bs.length < maxLength)
    (hlt : s.pc.toNat + bs.length < 2 ^ s.width)
    (hnone : s.mem.read (s.pc.toNat + bs.length) = none) :
    step s = .fault (.unwrittenByte (s.pc.toNat + bs.length) (s.setAgenda s.agenda.tail)) := by
  have hbytes : (s.setAgenda s.agenda.tail).bytesAtPc = (bs, .unwritten (s.pc.toNat + bs.length)) :=
    State.bytesAtPc_of_unwritten hbs hlen hlt hnone
  rw [step_of_executing hm hr hd, instructionStep, fetch, hbytes, hdec]

end

/-- Settles O8: one, two or three bytes at pc are enough for the decoder to reject them by name. -/
theorem bytesOutsideTheTableAreRefused : Obligations.BytesOutsideTheTableAreRefused := by
  intro s hm hr hd
  refine ⟨fun b hlt h0 hne => ?_, fun b hlt h0 h1 h01 hA2 => ?_, fun b hlt h0 h1 h2 hC8 hC9 => ?_⟩
  · exact step_of_decode_error hm hr hd (State.readsAtPc_one hlt h0) (by simp [maxLength]) nofun
      (decode_of_ne_escape hne)
  · exact step_of_decode_error hm hr hd (State.readsAtPc_two hlt h0 h1) (by simp [maxLength]) nofun
      (decode_of_unknownSecond h01 hA2)
  · exact step_of_decode_error hm hr hd (State.readsAtPc_three hlt h0 h1 h2) (by simp [maxLength]) nofun
      (decode_of_unknownThird hC8 hC9)

/-- Settles O9: nothing, `0F` and `0F 01` are no whole instruction, so the fetch asks for the byte after
them. -/
theorem incompleteFetchStopsByName : Obligations.IncompleteFetchStopsByName := by
  intro s hm hr hd
  refine ⟨fun htop h0 => ?_, fun htop h0 h1 => ?_, fun hlt hnone => ?_, fun hlt h0 hnone => ?_,
    fun hlt h0 h1 hnone => ?_⟩
  · exact step_of_wraps hm hr hd (State.readsAtPc_one (by omega) h0) rfl (by decide) htop
  · exact step_of_wraps hm hr hd (State.readsAtPc_two (by omega) h0 h1) rfl (by decide) htop
  · exact step_of_unwritten hm hr hd (State.readsAtPc_nil hlt.le) rfl (by decide) hlt hnone
  · exact step_of_unwritten hm hr hd (State.readsAtPc_one (by omega) h0) rfl (by decide) hlt hnone
  · exact step_of_unwritten hm hr hd (State.readsAtPc_two (by omega) h0 h1) rfl (by decide) hlt hnone

end Sys2Proof.Machine
end

section
/-! SUPPORT. Proofs of the family 40_enumeration_enabling.md: what CPUID reports, what bit 18 switches, and
what the bits read promise of MONITOR and MWAIT. -/

namespace Sys2Proof

/-- Any two cores of a consistent hybrid CPU have the same raw bits: both have the first core's. -/
theorem Config.hybridConsistent_pair {cores : List Config} (h : Config.hybridConsistent cores = true)
    {c d : Config} (hc : c ∈ cores) (hd : d ∈ cores) :
    c.monitorHw = d.monitorHw ∧ c.mwaitHw = d.mwaitHw ∧ c.monitorless = d.monitorless := by
  cases cores with
  | nil => cases hc
  | cons first rest =>
    have hfirst : ∀ e ∈ first :: rest, e.monitorHw = first.monitorHw ∧ e.mwaitHw = first.mwaitHw ∧
        e.monitorless = first.monitorless := by
      intro e he
      rcases List.mem_cons.mp he with rfl | he
      · exact ⟨rfl, rfl, rfl⟩
      · simpa [and_assoc] using List.all_eq_true.mp h e he
    obtain ⟨hm, hw, hl⟩ := hfirst c hc
    obtain ⟨hm', hw', hl'⟩ := hfirst d hd
    exact ⟨hm.trans hm'.symm, hw.trans hw'.symm, hl.trans hl'.symm⟩

end Sys2Proof

namespace Sys2Proof.Machine

/-! ## The CPUID bits as they read -/

theorem State.leaf05_iff (s : State) :
    s.leaf05 = true ↔ s.bitMonitor = true ∨ s.bitMwait = true := Bool.or_eq_true_iff

theorem State.leaf05_eq_false_iff (s : State) :
    s.leaf05 = false ↔ s.bitMonitor = false ∧ s.bitMwait = false := Bool.or_eq_false_iff

theorem State.bitMonitor_of_disabled {s : State} (h : s.miscEnable = false) : s.bitMonitor = false := by
  simp [State.bitMonitor, h]

theorem State.bitMwait_of_disabled {s : State} (h : s.miscEnable = false) : s.bitMwait = false := by
  simp [State.bitMwait, h]

theorem State.leaf05_of_disabled {s : State} (h : s.miscEnable = false) : s.leaf05 = false :=
  s.leaf05_eq_false_iff.mpr ⟨State.bitMonitor_of_disabled h, State.bitMwait_of_disabled h⟩

/-- Settles O50: `m` and `w` are the raw bit and bit 18, and `l` is a raw bit. -/
theorem hybridCoresEnumerateAlike : Obligations.HybridCoresEnumerateAlike := by
  intro cores s t hcores hs ht hbit
  obtain ⟨hm, hw, hl⟩ := Config.hybridConsistent_pair hcores hs ht
  exact ⟨congrArg₂ and hm hbit, congrArg₂ and hw hbit, hl⟩

/-! ## CPUID -/

/-- CPUID always completes (40_enumeration_enabling.md R59). -/
theorem exec_cpuid (s : State) : exec .cpuid s = .next (cpuidResult s.draw s) := rfl

theorem cpuidResult_leaf01_ecx3 (d : Draw) {s : State} (h : s.eax = 0x01#32) :
    (cpuidResult d s).ecx.getLsbD 3 = s.bitMonitor := by
  rw [cpuidResult_ecx, cpuidEcx_getLsbD, if_pos ⟨h, rfl⟩]

theorem cpuidResult_leaf07_edx23 (d : Draw) {s : State} (h : s.eax = 0x07#32) (hsub : s.ecx = 0x01#32) :
    (cpuidResult d s).edx.getLsbD 23 = s.bitMwait := by
  rw [cpuidResult_edx, cpuidEdx_getLsbD, if_pos ⟨h, hsub, rfl⟩]

/-- The three named bits of a supported leaf 05H (40_enumeration_enabling.md R52, R53). -/
theorem cpuidResult_leaf05_ecx (d : Draw) {s : State} (h : s.eax = 0x05#32) (hl : s.leaf05 = true) :
    (cpuidResult d s).ecx.getLsbD 0 = s.bitEmx ∧ (cpuidResult d s).ecx.getLsbD 1 = s.bitIbe ∧
      (cpuidResult d s).ecx.getLsbD 3 = s.bitMonitorless := by
  simp only [cpuidResult_ecx, cpuidEcx_getLsbD]
  simp [h, hl]

/-- ECX bits that no leaf names are the draw's (40_enumeration_enabling.md R59, D12). -/
theorem cpuidResult_ecx_unnamed (d : Draw) {s : State} {k : Nat} (h01 : ¬ (s.eax = 0x01#32 ∧ k = 3))
    (h05 : ¬ (s.eax = 0x05#32 ∧ s.leaf05 = true ∧ (k = 0 ∨ k = 1 ∨ k = 3))) :
    (cpuidResult d s).ecx.getLsbD k = d.ecx.getLsbD k := by
  rw [cpuidResult_ecx, cpuidEcx_getLsbD, if_neg h01, if_neg (by tauto), if_neg (by tauto),
    if_neg (by tauto)]

/-- EDX bits that no leaf names are the draw's (40_enumeration_enabling.md R59). -/
theorem cpuidResult_edx_unnamed (d : Draw) {s : State} {k : Nat}
    (h07 : ¬ (s.eax = 0x07#32 ∧ s.ecx = 0x01#32 ∧ k = 23)) :
    (cpuidResult d s).edx.getLsbD k = d.edx.getLsbD k := by
  rw [cpuidResult_edx, cpuidEdx_getLsbD, if_neg h07]

/-- Settles O43: CPUID completes, and each leaf gives its named bits. -/
theorem cpuidReportsTheNamedBits : Obligations.CpuidReportsTheNamedBits := fun s =>
  ⟨_, exec_cpuid s, cpuidResult_pc .., cpuidResult_leaf01_ecx3 _, cpuidResult_leaf07_edx23 _,
    fun h hl => cpuidResult_leaf05_ecx _ h (s.leaf05_iff.mpr hl)⟩

/-- Settles O45: the draw that has the values asked for. -/
theorem unnamedCpuidBitsAreFree : Obligations.UnnamedCpuidBitsAreFree := fun _ a b c v high =>
  ⟨{ (default : Draw) with eax := a, ebx := b, ecx := c, edx := v, rcxHigh := high }, rfl, rfl,
    cpuidResult_rcxHigh .., fun _ => cpuidResult_ecx_unnamed _, fun _ => cpuidResult_edx_unnamed _⟩

/-- Settles O44: no instruction writes the system state or memory, and the rest is the frame of CPUID's
result. -/
theorem cpuidFrame : Obligations.CpuidFrame := by
  intro s t h
  have hsys : SameSystem s t := sameSystem_of_exec_next h
  have hmem : SameMem s t := fun a => congrArg (Memory.read · a) (mem_of_exec_next h)
  cases h
  exact ⟨hsys, hmem, cpuidResult_monitor .., cpuidResult_run .., cpuidResult_pending ..,
    cpuidResult_agenda ..⟩

/-! ## System software's write of bit 18 -/

theorem step_of_writeMiscEnable {s : State} {b : Bool} {rest : List Turn}
    (ha : s.agenda = .writeMiscEnable b :: rest) (hr : s.run = .executing) :
    step s = .next (writeMiscEnable s.draw b (s.setAgenda rest)) := by
  have hw : ¬ s.waiting = true := by simp [s.waiting_eq_false_iff.mpr hr]
  rw [step_of_cons ha]
  exact if_neg hw

theorem step_of_writeMiscEnable_waiting {s : State} {b : Bool} {rest : List Turn} {hint : Word32}
    {e : Word64} (ha : s.agenda = .writeMiscEnable b :: rest) (hr : s.run = .optimized hint e) :
    step s = .refused .miscEnableWhileWaiting := by
  have hw : s.waiting = true := by simp [State.waiting, hr]
  rw [step_of_cons ha]
  exact if_pos hw

@[simp] theorem writeMiscEnable_bitMonitor (d : Draw) (b : Bool) (s : State) :
    (writeMiscEnable d b s).bitMonitor = (s.cfg.monitorHw && b) := by simp [State.bitMonitor]

@[simp] theorem writeMiscEnable_bitMwait (d : Draw) (b : Bool) (s : State) :
    (writeMiscEnable d b s).bitMwait = (s.cfg.mwaitHw && b) := by simp [State.bitMwait]

/-- Setting the bit leaves the monitor alone (D19). -/
theorem writeMiscEnable_true_monitor (d : Draw) (s : State) :
    (writeMiscEnable d true s).monitor = s.monitor := rfl

/-- Settles O48: the step is system software's write, whose frame gives every clause. -/
theorem enableBitWriteTakesEffectAtOnce : Obligations.EnableBitWriteTakesEffectAtOnce := by
  intro s b rest ha
  refine ⟨fun hr => ?_, fun hint e => step_of_writeMiscEnable_waiting ha⟩
  refine ⟨_, step_of_writeMiscEnable ha hr, writeMiscEnable_miscEnable .., writeMiscEnable_bitMonitor ..,
    writeMiscEnable_bitMwait .., ?_, by simp [SameRegs], by simp [SameMem], writeMiscEnable_pc ..,
    writeMiscEnable_run .., writeMiscEnable_pending ..⟩
  rintro rfl
  exact writeMiscEnable_true_monitor ..

/-! ## MONITOR, by the bit `m` -/

theorem exec_monitor_of_bitMonitor {s : State} (h : s.bitMonitor = true) :
    exec .monitor s = .next (monitorResult s.draw s) :=
  (execMonitor_eq s).trans (if_pos ((Bool.and_eq_true_iff.mp h).symm))

theorem exec_monitor_of_not_bitMonitor {s : State} (h : s.bitMonitor = false) :
    exec .monitor s = .fault (.invalidOpcode s) := by
  have hchecks : ¬ (s.miscEnable = true ∧ s.cfg.monitorHw = true) := by
    rintro ⟨he, hw⟩
    simp [State.bitMonitor, he, hw] at h
  exact (execMonitor_eq s).trans (if_neg hchecks)

/-! ## MWAIT, by its checks -/

/-- The #UD conditions, wherever #UD is reported for certain (60_exceptions.md R93, D1, D12). -/
theorem exec_mwait_of_ud {s : State} (hu : s.UdCondition) (hr : s.ReportsUd) :
    exec .mwait s = .fault (.invalidOpcode s) := by
  have hgp : ¬ mwaitReportsGp s.draw s = true := by
    rw [mwaitReportsGp_iff]
    rintro ⟨hp, hm, hg, -⟩
    rcases hr with h | h | h
    · exact absurd (h.symm.trans hp) nofun
    · exact hm h
    · exact h hg
  exact (mwaitWith_of_ud s.draw hu).trans (if_neg hgp)

/-- At level 0 or in real-address mode, outside virtual-8086 mode, the only #UD condition left is that
leaf 05H is not supported (41_mwait.md R61). -/
theorem State.udCondition_iff_of_privileged {s : State} (hm : s.mode ≠ .v8086)
    (hl : s.mode = .real ∨ s.cpl = 0) : s.UdCondition ↔ s.leaf05 = false := by
  constructor
  · rintro (h | h | ⟨hr, hc⟩ | h)
    · exact absurd h hm
    · exact s.leaf05_eq_false_iff.mpr h
    · exact absurd hl (not_or.mpr ⟨hr, hc⟩)
    · exact State.leaf05_of_disabled h
  · exact fun h => .inr (.inl (s.leaf05_eq_false_iff.mp h))

theorem State.not_udCondition_of_leaf05 {s : State} (hm : s.mode ≠ .v8086)
    (hl : s.mode = .real ∨ s.cpl = 0) (hleaf : s.leaf05 = true) : ¬ s.UdCondition := by
  simp [State.udCondition_iff_of_privileged hm hl, hleaf]

/-- The extensions that pass R62's checks are those of its table (41_mwait.md R62): no reserved bit leaves
0, 1, 4 and 5, and bits 2 and 0 of each say which CPUID bits it needs. -/
theorem State.not_gpCondition_iff (s : State) : ¬ s.GpCondition ↔ s.ExtensionsPass := by
  simp only [State.GpCondition, ← gpReserved_iff, gpReserved, not_or, Bool.not_eq_true,
    extReserved_false_iff, ← State.ext_bit0, ← State.ext_bit2, State.ExtensionsPass]
  constructor
  · rintro ⟨h | h | h | h, hgp⟩ <;> simpa [h, and_comm] using hgp
  · rintro (⟨h, hb⟩ | ⟨h, hb⟩ | ⟨h, hb⟩ | ⟨h, hb⟩) <;> simp [h, hb]

theorem exec_mwait_of_extensionsPass {s : State} (hu : ¬ s.UdCondition) (he : s.ExtensionsPass) :
    exec .mwait s = .next (mwaitIssue s.draw s) :=
  mwaitWith_passes s.draw ⟨hu, s.not_gpCondition_iff.mpr he⟩

theorem exec_mwait_of_not_extensionsPass {s : State} (hu : ¬ s.UdCondition) (he : ¬ s.ExtensionsPass) :
    exec .mwait s = .fault (.generalProtection s.gpCode s) :=
  mwaitWith_of_gp s.draw hu (not_not.mp (mt s.not_gpCondition_iff.mp he))

/-- Extensions 0 need `m` (41_mwait.md R62). -/
theorem State.extensionsPass_iff_of_ext_zero {s : State} (h : s.ext = 0) :
    s.ExtensionsPass ↔ s.bitMonitor = true := by
  simp [State.ExtensionsPass, h]

/-- Extensions 4 need `l` (41_mwait.md R62). -/
theorem State.extensionsPass_iff_of_ext_four {s : State} (h : s.ext = 4) :
    s.ExtensionsPass ↔ s.bitMonitorless = true := by
  simp [State.ExtensionsPass, h]

/-- Settles O47: with the bit cleared `m` and `w` read 0, which is U2 for MWAIT. -/
theorem clearedEnableBitDisablesBoth : Obligations.ClearedEnableBitDisablesBoth := by
  intro s hbit
  have hm : s.bitMonitor = false := State.bitMonitor_of_disabled hbit
  have hw : s.bitMwait = false := State.bitMwait_of_disabled hbit
  refine ⟨exec_monitor_of_not_bitMonitor hm, exec_mwait_of_ud (.inr (.inl ⟨hm, hw⟩)),
    State.leaf05_of_disabled hbit, fun t h01 ht => ?_, fun t h07 hsub ht => ?_⟩
  · cases ht
    exact (cpuidResult_leaf01_ecx3 _ h01).trans hm
  · cases ht
    exact (cpuidResult_leaf07_edx23 _ h07 hsub).trans hw

/-- Settles O46: at level 0 the rows follow from leaf 05H (#UD) and from what extensions 0 and 4 need
(#GP). -/
theorem supportMatrix : Obligations.SupportMatrix := by
  intro s hmode hlevel hprio
  have hnotUd : (s.bitMonitor = true ∨ s.bitMwait = true) → ¬ s.UdCondition := fun h =>
    State.not_udCondition_of_leaf05 hmode hlevel (s.leaf05_iff.mpr h)
  refine ⟨s.leaf05_iff, fun hm => ⟨_, exec_monitor_of_bitMonitor hm⟩, exec_monitor_of_not_bitMonitor,
    fun hm hw => ?_, fun he hm => ?_, fun he hm hw => ?_, fun he hmw hl => ?_, fun he hmw hl => ?_⟩
  · exact exec_mwait_of_ud (.inr (.inl ⟨hm, hw⟩)) (.inl hprio)
  · exact ⟨_, exec_mwait_of_extensionsPass (hnotUd (.inl hm))
      ((State.extensionsPass_iff_of_ext_zero he).mpr hm)⟩
  · exact exec_mwait_of_not_extensionsPass (hnotUd (.inr hw))
      (by simp [State.extensionsPass_iff_of_ext_zero he, hm])
  · exact ⟨_, exec_mwait_of_extensionsPass (hnotUd hmw)
      ((State.extensionsPass_iff_of_ext_four he).mpr hl)⟩
  · exact exec_mwait_of_not_extensionsPass (hnotUd hmw)
      (by simp [State.extensionsPass_iff_of_ext_four he, hl])

/-- Settles O49: either offer means that leaf 05H is supported, so that no #UD condition holds, and that
the bit is set which the extensions need. -/
theorem discoveryIsSound : Obligations.DiscoveryIsSound := by
  intro s hmode hlevel _
  have hnotUd : s.leaf05 = true → ¬ s.UdCondition := State.not_udCondition_of_leaf05 hmode hlevel
  refine ⟨fun hm => ?_, fun hoffer he => ?_⟩
  · have hleaf : s.leaf05 = true := s.leaf05_iff.mpr (.inl hm)
    exact ⟨hleaf, ⟨_, exec_monitor_of_bitMonitor hm⟩, fun he => ⟨_, exec_mwait_of_extensionsPass
      (hnotUd hleaf) ((State.extensionsPass_iff_of_ext_zero he).mpr hm)⟩⟩
  · obtain ⟨hleaf, hl⟩ := Bool.and_eq_true_iff.mp hoffer
    exact ⟨_, exec_mwait_of_extensionsPass (hnotUd hleaf)
      ((State.extensionsPass_iff_of_ext_four he).mpr hl)⟩

end Sys2Proof.Machine
end

section
/-! SUPPORT. Proofs of the family 41_mwait.md: MWAIT's checks and what its issue does, the wait and what ends
it, and the invariant that every step keeps. -/

namespace Sys2Proof.Machine

/-! ## Extensions, hints and checks -/

theorem State.extMaskedBreaks_ext (s : State) : extMaskedBreaks s.ext = s.ecx.getLsbD 0 := s.ext_bit0

theorem State.extMonitorless_ext (s : State) : extMonitorless s.ext = s.ecx.getLsbD 2 := s.ext_bit2

/-- MWAIT's checks pass exactly when neither of its two fault checks finds a condition (41_mwait.md R75). -/
theorem State.mwaitPasses_iff_checks (s : State) :
    s.MwaitPasses ↔ mwaitInvalid s = false ∧ mwaitProtected s = false := by
  have hud : mwaitInvalid s = false ↔ ¬ s.UdCondition := by simp [← mwaitInvalid_iff]
  rw [State.MwaitPasses, hud]
  refine and_congr_right fun hu => ?_
  rw [← mwaitProtected_iff (leaf05_of_not_ud hu), Bool.not_eq_true]

/-- Settles O10: the #UD conditions, wherever #UD is reported for certain. -/
theorem mwaitInvalidOpcode : Obligations.MwaitInvalidOpcode :=
  fun _ hu hr => exec_mwait_of_ud hu hr

/-- Settles O14: virtual-8086 mode is U1, and there #UD is reported for certain. -/
theorem mwaitNotRecognizedInV8086 : Obligations.MwaitNotRecognizedInV8086 :=
  fun _ hm => exec_mwait_of_ud (.inl hm) (.inr (.inl hm))

/-- Settles O11: a #GP condition is reported, its absence is the table of extensions, and a completion is
the absence of both kinds of condition. -/
theorem mwaitGeneralProtection : Obligations.MwaitGeneralProtection := by
  intro s hu
  refine ⟨fun hg => mwaitWith_of_gp s.draw hu hg, s.not_gpCondition_iff, ?_,
    fun he => ⟨_, exec_mwait_of_extensionsPass hu he⟩⟩
  rintro ⟨t, ht⟩
  obtain ⟨⟨-, hg⟩, -⟩ := mwaitWith_next (d := s.draw) ht
  exact s.not_gpCondition_iff.mp hg

/-- EAX[7:4] as a number. -/
theorem hintTarget_toNat (hint : Word32) : (hint.extractLsb' 4 4).toNat = hint.toNat / 16 % 16 := by
  simp [BitVec.extractLsb'_toNat, Nat.shiftRight_eq_div_pow]

/-- Settles O24: the target is four bits, so what is not 15 is at most 14. -/
theorem hintNamesTheTargetCState : Obligations.HintNamesTheTargetCState := by
  refine ⟨fun hint h => if_pos h, fun hint h => ?_, fun hint => ?_⟩
  · have hnumber : (requestedCState hint).number = (hint.extractLsb' 4 4).toNat + 1 := if_neg h
    have hne : (hint.extractLsb' 4 4).toNat ≠ 15 := fun hn => h (BitVec.eq_of_toNat_eq hn)
    rw [hintTarget_toNat] at hnumber hne
    omega
  · simp [requestedCState, BitVec.extractLsb'_toNat]

/-! ## The issue of MWAIT -/

theorem mwaitIssue_of_enter {d : Draw} {s : State} (hw : mwaitCanWait s = true) (hd : d.enter = true) :
    mwaitIssue d s = ((s.setRun (.optimized s.eax s.ext)).advance 3).nextDraw := by
  simp [mwaitIssue, hw, hd]

/-- MWAIT completes at once where it cannot wait and where the draw skips (41_mwait.md R64, R66, D3). -/
theorem mwaitIssue_of_not_enter {d : Draw} {s : State} (h : mwaitCanWait s = false ∨ d.enter = false) :
    mwaitIssue d s = ((s.setMonitor (completedMonitor d s.ext s.monitor)).advance 3).nextDraw := by
  rcases h with h | h <;> simp [mwaitIssue, mwaitComplete, h]

/-- The monitorless form leaves the monitor to the draw (41_mwait.md R73, D2). -/
theorem completedMonitor_of_monitorless (d : Draw) {e : Word64} (m : Monitor) (he : e.getLsbD 2 = true) :
    completedMonitor d e m = if d.trigger then .triggered else m := if_pos he

/-- Either MWAIT enters the optimized state, for which it must be monitorless or armed, or it completes
in the run state it had (41_mwait.md R64 to R66, R73). -/
theorem mwaitIssue_enters_or_completes (d : Draw) (s : State) :
    ((mwaitIssue d s).run = .optimized s.eax s.ext ∧ (mwaitIssue d s).monitor = s.monitor
        ∧ (s.ecx.getLsbD 2 = true ∨ ∃ r, s.monitor = .armed r))
      ∨ ((mwaitIssue d s).run = s.run ∧ ((mwaitIssue d s).monitor = .triggered
        ∨ (s.ecx.getLsbD 2 = true ∧ (mwaitIssue d s).monitor = s.monitor))) := by
  rcases mwaitIssue_cases d s with ⟨hw, -, h⟩ | ⟨-, h⟩ <;> rw [h]
  · exact .inl ⟨rfl, rfl, (mwaitCanWait_iff s).mp hw⟩
  · refine .inr ⟨rfl, ?_⟩
    rw [← s.extMonitorless_ext]
    exact completedMonitor_cases d s.ext s.monitor

/-- Settles O16: the checks pass, so MWAIT is its issue. -/
theorem mwaitCompletes : Obligations.MwaitCompletes := fun s hp =>
  ⟨_, mwaitWith_passes s.draw hp, mwaitIssue_pc .., mwaitIssue_enters_or_completes ..⟩

/-- The pc after MWAIT's issue, as a number (41_mwait.md R72, D4). -/
theorem mwaitIssue_pc_toNat (d : Draw) (s : State) :
    (mwaitIssue d s).pc.toNat = (s.pc.toNat + 3) % 2 ^ s.width := by
  rw [mwaitIssue_pc, State.pcPlus_toNat]

/-- Settles O17: not armed, the issue cannot enter; armed, the draw decides. -/
theorem monitoredMwaitWaitsOnlyWhileArmed : Obligations.MonitoredMwaitWaitsOnlyWhileArmed := by
  intro s hp he
  refine ⟨fun hm => ⟨_, mwaitWith_passes s.draw hp, mwaitIssue_run_of_not_armed _ he hm,
    mwaitIssue_pc_toNat ..⟩, fun r hr => ⟨rfl, fun d hd => ?_, fun d hd => ?_⟩⟩
  · have henter := mwaitIssue_of_enter ((mwaitCanWait_iff s).mpr (.inr ⟨r, hr⟩)) hd
    exact ⟨_, mwaitWith_passes d hp, by rw [henter]; rfl, by rw [henter]; exact hr,
      mwaitIssue_pc_toNat ..⟩
  · exact ⟨_, mwaitWith_passes d hp, by rw [mwaitIssue_of_not_enter (.inr hd)]; rfl,
      mwaitIssue_pc_toNat ..⟩

/-- Settles O21: MWAIT completes by its issue, which writes none of these. -/
theorem mwaitFrame : Obligations.MwaitFrame := by
  intro s t h
  have hsys : SameSystem s t := sameSystem_of_exec_next h
  have hmem : SameMem s t := fun a => congrArg (Memory.read · a) (mem_of_exec_next h)
  obtain ⟨-, rfl⟩ := mwaitWith_next (d := s.draw) h
  exact ⟨sameRegs_mwaitIssue .., hsys, hmem, mwaitIssue_pending .., mwaitIssue_agenda ..⟩

/-! ## What MWAIT reads of EAX and RCX -/

/-- Another hint changes neither whether MWAIT waits nor the monitor: only what a wait records. -/
theorem mwaitIssue_withEax (d : Draw) (s : State) (v : Word32) :
    (mwaitIssue d { s with eax := v }).monitor = (mwaitIssue d s).monitor
      ∧ (((mwaitIssue d s).run = s.run ∧ (mwaitIssue d { s with eax := v }).run = s.run)
        ∨ ((mwaitIssue d s).run = .optimized s.eax s.ext
          ∧ (mwaitIssue d { s with eax := v }).run = .optimized v s.ext)) := by
  rcases mwaitIssue_cases d s with ⟨hw, hd, h⟩ | ⟨hn, h⟩
  · rw [h, mwaitIssue_of_enter (s := { s with eax := v }) hw hd]
    exact ⟨rfl, .inr ⟨rfl, rfl⟩⟩
  · rw [h, mwaitIssue_of_not_enter (s := { s with eax := v }) hn]
    exact ⟨rfl, .inl ⟨rfl, rfl⟩⟩

/-- Settles O22: the checks do not read EAX, and the issue only records it. -/
theorem eaxHintChangesNoOutcome : Obligations.EaxHintChangesNoOutcome := by
  intro s v
  obtain ⟨hud, hgp⟩ := mwaitWith_fault_congr s.draw (s := s) (t := { s with eax := v }) rfl rfl rfl rfl
  refine ⟨fun t h => ?_, hud, hgp⟩
  obtain ⟨hpass, rfl⟩ := mwaitWith_next (d := s.draw) h
  have hpass' : State.MwaitPasses { s with eax := v } :=
    (State.mwaitPasses_congr rfl rfl rfl rfl rfl).mpr hpass
  refine ⟨_, mwaitWith_passes s.draw hpass', ?_, mwaitIssue_withEax s.draw s v⟩
  rw [mwaitIssue_pc, mwaitIssue_pc]; rfl

/-- Outside 64-bit mode the extensions are ECX (41_mwait.md R62). -/
theorem State.ext_withRcx {s : State} {v : Word64} (hm : s.mode ≠ .long64) (hv : v.setWidth 32 = s.ecx) :
    State.ext { s with rcx := v } = s.ext := by
  have hecx : State.ecx { s with rcx := v } = s.ecx := hv
  unfold State.ext
  rw [hecx, if_neg hm, if_neg hm]

section

variable {s : State} {v : Word64} (hext : State.ext { s with rcx := v } = s.ext)
include hext

/-- MWAIT's #GP check reads RCX through the extensions alone. -/
theorem mwaitProtected_withRcx : mwaitProtected { s with rcx := v } = mwaitProtected s := by
  simp only [mwaitProtected, gpReserved, gpMaskedBreaks, gpMonitorless, gpMonitored, hext]
  rfl

theorem State.mwaitPasses_withRcx : State.MwaitPasses { s with rcx := v } ↔ s.MwaitPasses := by
  rw [State.mwaitPasses_iff_checks, State.mwaitPasses_iff_checks, mwaitProtected_withRcx hext]
  rfl

/-- MWAIT's issue reads RCX through the extensions alone. -/
theorem mwaitIssue_withRcx (d : Draw) :
    mwaitIssue d { s with rcx := v } = { mwaitIssue d s with rcx := v } := by
  have hcan : mwaitCanWait { s with rcx := v } = mwaitCanWait s :=
    congrArg (extMonitorless · || s.monitorArmed) hext
  rcases mwaitIssue_cases d s with ⟨hw, hd, h⟩ | ⟨hn, h⟩
  · rw [h, mwaitIssue_of_enter (hcan.trans hw) hd, hext]
    rfl
  · rw [h, mwaitIssue_of_not_enter (hn.imp_left hcan.trans), hext]
    rfl

end

/-- In 64-bit mode a bit set in RCX[63:32] is a reserved bit (41_mwait.md R62 G1). -/
theorem State.gpReservedBits_of_upperHalf {s : State} (hm : s.mode = .long64)
    (h : s.rcx.extractLsb' 32 32 ≠ 0) : s.GpReservedBits := by
  have hpart : s.rcx.extractLsb' 32 32 = (s.rcx.extractLsb' 3 61).extractLsb' 29 32 := by
    apply BitVec.eq_of_getLsbD_eq
    intro k hk
    have hk' : 29 + k < 61 := by omega
    simp [hk, hk', ← Nat.add_assoc]
  exact .inl ⟨hm, fun h0 => h (by rw [hpart, h0]; rfl)⟩

/-- Settles O23: outside 64-bit mode the extensions are the same, and MWAIT reads RCX through them alone;
in it a bit of the upper half is a reserved one. -/
theorem upperHalfOfRcxMattersOnlyIn64BitMode : Obligations.UpperHalfOfRcxMattersOnlyIn64BitMode := by
  refine ⟨fun s t v hm hv h => ?_, fun s v hm hv => ?_, fun s hm hu h => ?_⟩
  · have hext := State.ext_withRcx hm hv
    obtain ⟨hpass, rfl⟩ := mwaitWith_next (d := s.draw) h
    refine ⟨_, mwaitWith_passes s.draw ((State.mwaitPasses_withRcx hext).mpr hpass), ?_⟩
    rw [mwaitIssue_withRcx hext]
    exact ⟨rfl, rfl, rfl⟩
  · exact mwaitWith_fault_congr s.draw rfl (mwaitProtected_withRcx (State.ext_withRcx hm hv)) rfl rfl
  · have hcode : s.gpCode = some 0 := if_neg (by simp [hm])
    rw [← hcode]
    exact mwaitWith_of_gp s.draw hu (.inl (State.gpReservedBits_of_upperHalf hm h))

/-! ## The wait and the wake -/

theorem waitTurn_of_wake {d : Draw} (e : Word64) (s : State) (hd : d.wake = true) :
    waitTurn d e s = mwaitWake d e s := by simp [waitTurn, hd]

/-- Without a named break event a draw that does not wake goes on waiting (41_mwait.md R71). -/
theorem waitTurn_of_no_breakEvent {d : Draw} {e : Word64} {s : State} (hd : d.wake = false)
    (hb : ¬ s.BreakEvent e) : waitTurn d e s = s.nextDraw := by
  rw [← namedBreak_iff, Bool.not_eq_true] at hb
  simp [waitTurn, hd, hb]

/-- A monitorless wait with nothing pending has no named break event, whatever the monitor is
(41_mwait.md R65, R69). -/
theorem State.not_breakEvent_of_monitorless {s : State} {e : Word64} (he : e.getLsbD 2 = true)
    (hp : s.pending = .none) : ¬ s.BreakEvent e := by
  simp [State.BreakEvent, hp, Pending.none, he]

/-- Settles O18: the monitorless form can always wait, and its wait has no named break event that a store
could make. -/
theorem monitorlessMwaitMayWaitWhateverTheMonitor :
    Obligations.MonitorlessMwaitMayWaitWhateverTheMonitor := by
  refine ⟨fun s m d hp he hd => ?_, fun s m d hint e hr he hp => ⟨fun hd => ?_, fun hd => ?_⟩⟩
  · have hpass : (s.setMonitor m).MwaitPasses := (State.mwaitPasses_congr rfl rfl rfl rfl rfl).mpr hp
    have hcan : mwaitCanWait (s.setMonitor m) = true := (mwaitCanWait_iff _).mpr (.inl he)
    exact ⟨_, mwaitWith_passes d hpass, by rw [mwaitIssue_of_enter hcan hd]; rfl⟩
  · have hquiet : ¬ (s.setMonitor m).BreakEvent e := State.not_breakEvent_of_monitorless he hp
    rw [waitTurn_of_no_breakEvent hd hquiet]
    exact ⟨hr, rfl⟩
  · rw [waitTurn_of_wake _ _ hd]
    exact mwaitWake_run ..

/-- Settles O19: what leaves the processor executing has completed, by the issue or by the wake; in the
monitorless form the draw decides the monitor in both. -/
theorem completedMwaitTriggersTheMonitor : Obligations.CompletedMwaitTriggersTheMonitor := by
  refine ⟨fun s t _ h ht => ?_, fun s t hint e hr hm h ht => ?_, fun s d he hd => ?_,
    fun s d e he hwake => ?_⟩
  · obtain ⟨-, rfl⟩ := mwaitWith_next (d := s.draw) h
    rcases mwaitIssue_enters_or_completes s.draw s with ⟨hw, -, -⟩ | ⟨-, hmon⟩
    · exact absurd (hw.symm.trans ht) nofun
    · exact hmon
  · rw [step_of_waiting hr hm] at h
    cases h
    rcases waitTurn_cases s.draw e (s.setAgenda s.agenda.tail) with hw | ⟨-, -, hw⟩ <;> rw [hw] at ht ⊢
    · exact completedMonitor_cases ..
    · exact absurd (hr.symm.trans ht) nofun
  · rw [mwaitIssue_of_not_enter (.inr hd)]
    exact completedMonitor_of_monitorless _ _ (s.extMonitorless_ext.trans he)
  · have hw : waitTurn d e s = mwaitWake d e s := hwake.elim (waitTurn_of_wake e s)
      (waitTurn_of_breakEvent d)
    rw [hw]
    exact ⟨rfl, completedMonitor_of_monitorless _ _ he⟩

/-- Settles O26: the step is the wake, which leaves pc and the pending events alone. -/
theorem namedBreakEventsEndTheWait : Obligations.NamedBreakEventsEndTheWait :=
  fun _ _ _ hr hm hb => ⟨_, step_of_waiting_breakEvent hr hm hb, rfl, rfl, rfl, rfl⟩

/-- Settles O28: the step is the wait turn, in which the draw decides where no named break event is
present. -/
theorem implementationDependentWakeIsAllowedNotForced :
    Obligations.ImplementationDependentWakeIsAllowedNotForced := by
  intro s hint e hr hm
  refine ⟨step_of_waiting hr hm, fun d hd => ?_, fun d hd hb => ?_⟩
  · rw [waitTurn_of_wake _ _ hd]; rfl
  · have hquiet : ¬ (s.setAgenda s.agenda.tail).BreakEvent e := hb
    rw [waitTurn_of_no_breakEvent hd hquiet]; rfl

/-- With IF = 0 no step delivers an external interrupt (60_exceptions.md R96, D21). -/
theorem step_ne_extInt_of_intFlag {s : State} (h : s.intFlag = false) (u : State) :
    step s ≠ .fault (.event .extInt u) := by
  intro hstep
  obtain ⟨-, -, hb, -⟩ := step_event_cases hstep
  obtain ⟨-, hmasked⟩ := boundaryEvent_some hb
  simp [State.masked, State.intDeliverable, h] at hmasked

/-- Settles O27: extension bit 0 makes the interrupt a break event, and the wake leaves it pending and
IF clear. -/
theorem maskedInterruptBreaksTheWaitUndelivered : Obligations.MaskedInterruptBreaksTheWaitUndelivered := by
  intro s hint e hr hm hp hif he
  have hb : s.BreakEvent e := by simp [State.BreakEvent, hp, he]
  exact ⟨_, step_of_waiting_breakEvent hr hm hb, rfl, hp, hif, step_ne_extInt_of_intFlag hif⟩

/-- Settles O30: the issue has moved pc already, and neither the wait turn nor a delivery moves it. -/
theorem noRestartAtMwait : Obligations.NoRestartAtMwait := by
  intro s t d1 d2 hint e h _ _
  obtain ⟨-, rfl⟩ := mwaitWith_next h
  have hpc : (waitTurn d2 e (mwaitIssue d1 s)).pc = s.pcPlus 3 := by rw [waitTurn_pc, mwaitIssue_pc]
  refine ⟨hpc, fun k v hv => ?_⟩
  obtain ⟨-, -, -, rfl⟩ := step_event_cases hv
  exact hpc

/-! ## Whole-machine rules -/

/-- Settles O52: of everything a step can do, nothing writes these. -/
theorem noStepChangesModePrivilegeFlagOrConfiguration :
    Obligations.NoStepChangesModePrivilegeFlagOrConfiguration := by
  intro s t h
  rcases step_next_cases h with ⟨-, hint, e, -, rfl⟩ | ⟨-, -, -, i, -, hx⟩ |
    ⟨g, a, bs, rest, -, -, rfl⟩ | ⟨k, rest, -, rfl⟩ | ⟨b, rest, -, -, rfl⟩
  case inr.inl =>
    obtain ⟨hflag, hlevel, hmode, -, hcfg⟩ := ((sameSystem_setAgenda s s.agenda.tail).trans
      (sameSystem_afterBoundary _)).trans (sameSystem_of_exec_next hx)
    exact ⟨hmode, hlevel, hflag, hcfg⟩
  all_goals simp

/-- An instruction that completes leaves the run state alone, or it is MWAIT that enters the optimized state
(41_mwait.md R64, R65). -/
theorem exec_next_run {i : Instr} {s t : State} (h : exec i s = .next t) :
    t.run = s.run ∨ (i = .mwait ∧ t.run = .optimized s.eax s.ext ∧ s.MwaitPasses ∧ t.pc = s.pcPlus 3
      ∧ (s.ecx.getLsbD 2 = true ∨ ∃ r, s.monitor = .armed r)) := by
  rcases exec_next_cases h with ⟨hi, hp, rfl⟩ | ⟨-, -, -, rfl⟩ | ⟨-, rfl⟩
  · rcases mwaitIssue_enters_or_completes s.draw s with ⟨hr, -, hw⟩ | ⟨hr, -⟩
    · exact .inr ⟨hi, hr, hp, mwaitIssue_pc .., hw⟩
    · exact .inl hr
  · exact .inl (monitorResult_run ..)
  · exact .inl (cpuidResult_run ..)

/-- At most the model's own counter is different after the boundary. -/
theorem afterBoundary_eq_withDraws (s : State) : ∃ n, afterBoundary s = { s with draws := n } := by
  rcases afterBoundary_eq s with h | h
  · exact ⟨s.draws, h⟩
  · exact ⟨s.draws + 1, h⟩

/-- Settles O31: of everything a step of an executing processor can do, only the instruction at pc can
change the run state, and of the instructions only MWAIT does. -/
theorem onlyMwaitEntersTheOptimizedState : Obligations.OnlyMwaitEntersTheOptimizedState := by
  intro s t hr h
  rcases step_next_cases h with ⟨-, hint, e, hr', -⟩ | ⟨hm, -, -, i, hpc, hx⟩ |
    ⟨g, a, bs, rest, -, -, rfl⟩ | ⟨k, rest, -, rfl⟩ | ⟨b, rest, -, -, rfl⟩
  case inl => exact absurd (hr.symm.trans hr') nofun
  case inr.inl =>
    obtain ⟨n, hn⟩ := afterBoundary_eq_withDraws (s.setAgenda s.agenda.tail)
    rw [hn] at hx
    rcases exec_next_run hx with hrun | ⟨rfl, hrun, hp, hpc', hw⟩
    · exact .inl (hrun.trans hr)
    · exact .inr ⟨hrun, hm, hpc, hp, hpc', hw⟩
  all_goals exact .inl (by simpa using hr)

/-! ## The invariant, part by part -/

/-- A state whose monitor is triggered, or that of a state whose range fits, has a range that fits. -/
theorem State.rangeFits_of_triggered_or_same {s t : State} (h : s.rangeFits = true) (hc : t.cfg = s.cfg)
    (hm : t.monitor = .triggered ∨ t.monitor = s.monitor) : t.rangeFits = true := by
  unfold State.rangeFits at *
  rcases hm with hm | hm
  · rw [hm]
  · rw [hm, hc]; exact h

theorem State.rangeFits_of_idle {s : State} (h : s.monitor = .idle) : s.rangeFits = true := by
  simp [State.rangeFits, h]

theorem State.rangeFits_of_armed {s : State} {r : Range} (h : s.monitor = .armed r)
    (hsize : r.size = s.cfg.rangeSize) (hpos : 0 < r.size) : s.rangeFits = true := by
  simp [State.rangeFits, h, ← hsize, hpos]

theorem State.waitFits_of_executing {s : State} (h : s.run = .executing) : s.waitFits = true := by
  simp [State.waitFits, h]

/-- The form of a wait in the source's words: no condition of R61 holds, none of R62 holds of its extensions,
and a monitored wait's monitor is not idle. -/
theorem State.waitFits_iff {s : State} {hint : Word32} {e : Word64} (hr : s.run = .optimized hint e) :
    s.waitFits = true ↔ ¬ s.UdCondition ∧ extReserved e = false
      ∧ (extMaskedBreaks e = true → s.bitIbe = true)
      ∧ (extMonitorless e = true → s.bitMonitorless = true)
      ∧ (extMonitorless e = false → s.bitMonitor = true ∧ s.monitor ≠ .idle) := by
  have hud : (s.miscEnable = true ∧ s.mode ≠ .v8086 ∧ (s.mode = .real ∨ s.cpl = 0) ∧ s.leaf05 = true)
      ↔ ¬ s.UdCondition := by
    simp only [State.UdCondition, State.leaf05, Bool.or_eq_true, ← Bool.not_eq_true]
    tauto
  rw [← hud, State.waitFits, hr]
  cases hl : extMonitorless e <;> simp [hl, imp_iff_not_or, and_assoc]

/-- Of the monitor a wait needs only that it is not idle. -/
theorem State.waitFits_of_same {s t : State} (h : s.waitFits = true) (hs : SameSystem s t)
    (hr : t.run = s.run) (hm : t.monitor = .idle → s.monitor = .idle) : t.waitFits = true := by
  cases hrun : s.run with
  | executing => exact State.waitFits_of_executing (hr.trans hrun)
  | optimized hint e =>
    obtain ⟨-, hlevel, hmode, hbit, hcfg⟩ := hs
    obtain ⟨hu, hres, h0, hl, hmon⟩ := (State.waitFits_iff hrun).mp h
    rw [State.waitFits_iff (hr.trans hrun)]
    simp only [State.UdCondition, State.bitMonitor, State.bitMwait, State.bitIbe, State.bitMonitorless,
      hlevel, hmode, hbit, hcfg] at hu h0 hl hmon ⊢
    exact ⟨hu, hres, h0, hl, fun he => (hmon he).imp_right (mt hm)⟩

/-- Where MWAIT enters the optimized state its checks have passed and it could wait (41_mwait.md R61, R62,
R64). -/
theorem State.waitFits_of_enter {s : State} (hp : s.MwaitPasses) (hw : mwaitCanWait s = true)
    (hint : Word32) : (s.setRun (.optimized hint s.ext)).waitFits = true := by
  obtain ⟨hu, hg⟩ := hp
  simp only [State.GpCondition, ← gpReserved_iff, gpReserved, not_or, not_and, Bool.not_eq_true,
    Bool.not_eq_false] at hg
  obtain ⟨hres, h0, hl, hm⟩ := hg
  rw [State.waitFits_iff rfl, s.extMaskedBreaks_ext, s.extMonitorless_ext]
  refine ⟨hu, hres, h0, hl, fun he => ⟨hm he, fun hidle => ?_⟩⟩
  rcases (mwaitCanWait_iff s).mp hw with hl | ⟨r, hr⟩
  · exact absurd (he.symm.trans hl) (by decide)
  · exact absurd (hidle.symm.trans hr) nofun

/-! ## The invariant, operation by operation -/

/-- Everything the write of bit 18 can do to the monitor (D19). -/
theorem disabledMonitor_cases (d : Draw) (s : State) :
    disabledMonitor d s = .idle ∨ disabledMonitor d s = .triggered ∨
      ∃ r, disabledMonitor d s = .armed r ∧ r.size = s.cfg.rangeSize ∧ 0 < r.size := by
  unfold disabledMonitor
  cases d.disabled with
  | idle => exact .inl rfl
  | triggered => exact .inr (.inl rfl)
  | armed =>
    by_cases h : 0 < s.cfg.rangeSize
    · exact .inr (.inr ⟨_, if_pos h, rfl, h⟩)
    · exact .inl (if_neg h)

theorem State.Inv.setAgenda {s : State} (h : s.Inv) (l : List Turn) : (s.setAgenda l).Inv :=
  ⟨h.mem, h.pc, h.range, h.wait⟩

theorem State.Inv.setPending {s : State} (h : s.Inv) (p : Pending) : (s.setPending p).Inv :=
  ⟨h.mem, h.pc, h.range, h.wait⟩

theorem State.Inv.nextDraw {s : State} (h : s.Inv) : s.nextDraw.Inv :=
  ⟨h.mem, h.pc, h.range, h.wait⟩

theorem State.Inv.afterBoundary {s : State} (h : s.Inv) : (afterBoundary s).Inv := by
  rcases afterBoundary_eq s with hs | hs <;> rw [hs]
  · exact h
  · exact h.nextDraw

theorem State.Inv.mwaitWake {s : State} (h : s.Inv) (d : Draw) (e : Word64) : (mwaitWake d e s).Inv where
  mem := h.mem
  pc := h.pc
  range := State.rangeFits_of_triggered_or_same h.range rfl
    ((completedMonitor_cases d e s.monitor).imp_right (·.2))
  wait := rfl

theorem State.Inv.waitTurn {s : State} (h : s.Inv) (d : Draw) (e : Word64) : (waitTurn d e s).Inv := by
  rcases waitTurn_cases d e s with hw | ⟨-, -, hw⟩ <;> rw [hw]
  · exact h.mwaitWake d e
  · exact h.nextDraw

theorem State.Inv.mwaitIssue {s : State} (h : s.Inv) (hr : s.run = .executing) (hp : s.MwaitPasses)
    (d : Draw) : (mwaitIssue d s).Inv := by
  rcases mwaitIssue_cases d s with ⟨hw, -, hi⟩ | ⟨-, hi⟩ <;> rw [hi]
  · exact ⟨h.mem, s.pcPlus_lt 3, h.range, State.waitFits_of_enter hp hw s.eax⟩
  · exact ⟨h.mem, s.pcPlus_lt 3, State.rangeFits_of_triggered_or_same h.range rfl
      ((completedMonitor_cases d s.ext s.monitor).imp_right (·.2)), State.waitFits_of_executing hr⟩

theorem State.Inv.monitorResult {s : State} (h : s.Inv) (hr : s.run = .executing) (d : Draw) :
    (monitorResult d s).Inv where
  mem := h.mem
  pc := s.pcPlus_lt 3
  range := by
    rcases armedMonitor_cases d s with hm | ⟨r, hm, hsize, hpos, -⟩
    · exact State.rangeFits_of_idle hm
    · exact State.rangeFits_of_armed hm hsize hpos
  wait := State.waitFits_of_executing hr

theorem State.Inv.cpuidResult {s : State} (h : s.Inv) (hr : s.run = .executing) (d : Draw) :
    (cpuidResult d s).Inv where
  mem := h.mem
  pc := s.pcPlus_lt 2
  range := h.range
  wait := State.waitFits_of_executing hr

/-- Every instruction that completes keeps the invariant. -/
theorem State.Inv.exec {s t : State} {i : Instr} (h : s.Inv) (hr : s.run = .executing)
    (hx : exec i s = .next t) : t.Inv := by
  rcases exec_next_cases hx with ⟨-, hp, rfl⟩ | ⟨-, -, -, rfl⟩ | ⟨-, rfl⟩
  · exact h.mwaitIssue hr hp _
  · exact h.monitorResult hr _
  · exact h.cpuidResult hr _

theorem State.Inv.agentStore {s : State} (h : s.Inv) (d : Draw) (g : Agent) (a : Nat) (bs : List Byte) :
    (agentStore d g a bs s).Inv := by
  have hm := (storeMonitor_cases d s.waiting g a bs.length s.monitor).symm.imp_left (·.1)
  refine ⟨Memory.wf_writeBytes bs s.mem a h.mem, h.pc, State.rangeFits_of_triggered_or_same h.range rfl hm,
    State.waitFits_of_same h.wait ⟨rfl, rfl, rfl, rfl, rfl⟩ rfl fun hidle => ?_⟩
  rcases hm with hm | hm
  · exact absurd (hm.symm.trans hidle) nofun
  · exact hm.symm.trans hidle

theorem State.Inv.writeMiscEnable {s : State} (h : s.Inv) (hr : s.run = .executing) (d : Draw) (b : Bool) :
    (writeMiscEnable d b s).Inv := by
  cases b with
  | true => exact ⟨h.mem, h.pc, h.range, State.waitFits_of_executing hr⟩
  | false =>
    refine ⟨h.mem, h.pc, ?_, State.waitFits_of_executing hr⟩
    rcases disabledMonitor_cases d s with hm | hm | ⟨r, hm, hsize, hpos⟩
    · exact State.rangeFits_of_idle hm
    · exact State.rangeFits_of_triggered_or_same h.range rfl (.inl hm)
    · exact State.rangeFits_of_armed hm hsize hpos

/-- Settles O3: everything a step can do keeps the invariant. -/
theorem everyStepKeepsTheInvariant : Obligations.EveryStepKeepsTheInvariant := by
  intro s t h hstep
  rcases step_next_cases hstep with ⟨-, hint, e, -, rfl⟩ | ⟨-, hr, -, i, -, hx⟩ |
    ⟨g, a, bs, rest, -, -, rfl⟩ | ⟨k, rest, -, rfl⟩ | ⟨b, rest, -, hr, rfl⟩
  · exact (h.setAgenda _).waitTurn _ e
  · refine (h.setAgenda _).afterBoundary.exec ?_ hx
    obtain ⟨n, hn⟩ := afterBoundary_eq_withDraws (s.setAgenda s.agenda.tail)
    rw [hn]
    exact hr
  · exact (h.setAgenda rest).agentStore _ g a bs
  · exact (h.setAgenda rest).setPending _
  · exact (h.setAgenda rest).writeMiscEnable hr _ b

end Sys2Proof.Machine
end

section
/-! SUPPORT. Proofs of the family 42_monitor_hlt.md: what MONITOR arms, when it faults, and what it leaves
unchanged. -/

namespace Sys2Proof.Machine

theorem Range.contains_iff (r : Range) (a : Nat) :
    r.contains a = true ↔ r.base ≤ a ∧ a < r.base + r.size := decide_eq_true_iff

theorem State.bitMonitor_iff (s : State) :
    s.bitMonitor = true ↔ s.cfg.monitorHw = true ∧ s.miscEnable = true := Bool.and_eq_true_iff

/-- A MONITOR that completes ends in the state its result names. -/
theorem exec_monitor_next {s t : State} (h : exec .monitor s = .next t) : t = monitorResult s.draw s := by
  rcases exec_next_cases h with ⟨hi, -⟩ | ⟨-, -, -, ht⟩ | ⟨hi, -⟩
  · exact absurd hi nofun
  · exact ht
  · exact absurd hi nofun

theorem sameRegs_monitorResult (d : Draw) (s : State) : SameRegs s (monitorResult d s) :=
  ⟨rfl, rfl, rfl, rfl⟩

/-- Settles O34: MONITOR completes where `m` reads 1, and arming leaves the monitor idle or draws a range
around the address. -/
theorem monitorArmsARangeAroundTheAddress : Obligations.MonitorArmsARangeAroundTheAddress := by
  intro s hbit hhw
  have hm : s.bitMonitor = true := s.bitMonitor_iff.mpr ⟨hhw, hbit⟩
  refine ⟨_, exec_monitor_of_bitMonitor hm, monitorResult_pc .., ?_⟩
  rw [monitorResult_monitor]
  rcases armedMonitor_cases s.draw s with hidle | ⟨r, harmed, hsize, -, hin⟩
  · exact .inl hidle
  · obtain ⟨hlow, hhigh⟩ := (r.contains_iff _).mp hin
    exact .inr ⟨r, harmed, hsize, hlow, hhigh⟩

/-- Settles O36: with bit 18 clear `m` reads 0 as well, and MONITOR is #UD wherever `m` reads 0. -/
theorem unsupportedMonitorIsInvalidOpcode : Obligations.UnsupportedMonitorIsInvalidOpcode := by
  rintro s (hbit | hm)
  · exact exec_monitor_of_not_bitMonitor (State.bitMonitor_of_disabled hbit)
  · exact exec_monitor_of_not_bitMonitor hm

/-- Settles O37: no instruction writes the system state or memory, and the rest is the frame of MONITOR's
result. -/
theorem monitorFrame : Obligations.MonitorFrame := by
  intro s t h
  have hsys : SameSystem s t := sameSystem_of_exec_next h
  have hmem : SameMem s t := fun a => congrArg (Memory.read · a) (mem_of_exec_next h)
  obtain rfl := exec_monitor_next h
  exact ⟨sameRegs_monitorResult .., hsys, hmem, monitorResult_pending .., monitorResult_run ..,
    monitorResult_agenda ..⟩

end Sys2Proof.Machine
end

section
/-! SUPPORT. Proofs of the family 60_exceptions.md: which exception MWAIT reports, the privilege level, the
events delivered at an instruction boundary, and what a guest can tell of the VMM's answers. -/

namespace Sys2Proof.Machine

/-! ## Which exception MWAIT reports -/

/-- Everything MWAIT can do: it completes where its checks pass, or it reports #UD where a #UD condition
holds, or #GP where a #GP condition is well defined, and then a #UD condition besides only under `either`
outside virtual-8086 mode (60_exceptions.md R93, D1, D12). -/
theorem mwaitWith_cases (d : Draw) (s : State) :
    (s.MwaitPasses ∧ mwaitWith d s = .next (mwaitIssue d s)) ∨
    (s.UdCondition ∧ mwaitWith d s = .fault (.invalidOpcode s)) ∨
    (s.GpWellDefined ∧ (s.UdCondition → s.cfg.faultPriority = .either ∧ s.mode ≠ .v8086) ∧
      mwaitWith d s = .fault (.generalProtection s.gpCode s)) := by
  by_cases hu : s.UdCondition
  · by_cases hr : mwaitReportsGp d s = true
    · obtain ⟨hprio, hmode, hg, -⟩ := (mwaitReportsGp_iff d s).mp hr
      exact .inr (.inr ⟨hg, fun _ => ⟨hprio, hmode⟩, (mwaitWith_of_ud d hu).trans (if_pos hr)⟩)
    · exact .inr (.inl ⟨hu, (mwaitWith_of_ud d hu).trans (if_neg hr)⟩)
  · by_cases hg : s.GpCondition
    · exact .inr (.inr ⟨(State.gpWellDefined_iff (leaf05_of_not_ud hu)).mpr hg, (absurd · hu),
        mwaitWith_of_gp d hu hg⟩)
    · exact .inl ⟨⟨hu, hg⟩, mwaitWith_passes d ⟨hu, hg⟩⟩

/-- Everything a fault of MWAIT tells. -/
theorem mwaitWith_fault {d : Draw} {s : State} {f : Fault} (h : mwaitWith d s = .fault f) :
    (f = .invalidOpcode s ∧ s.UdCondition) ∨ (f = .generalProtection s.gpCode s ∧ s.GpWellDefined) := by
  rcases mwaitWith_cases d s with ⟨-, hx⟩ | ⟨hu, hx⟩ | ⟨hg, -, hx⟩ <;> cases hx.symm.trans h
  · exact .inl ⟨rfl, hu⟩
  · exact .inr ⟨rfl, hg⟩

/-- Where both kinds of condition hold under `either`, the draw decides between #UD and #GP
(60_exceptions.md R93, D1). -/
theorem mwaitWith_of_either (d : Draw) {s : State} (hu : s.UdCondition)
    (hprio : s.cfg.faultPriority = .either) (hmode : s.mode ≠ .v8086) (hg : s.GpWellDefined) :
    mwaitWith d s = if d.reportGp then .fault (.generalProtection s.gpCode s)
      else .fault (.invalidOpcode s) := by
  have hdraw : mwaitReportsGp d s = true ↔ d.reportGp = true := by
    simp [mwaitReportsGp_iff, hprio, hmode, hg]
  simp only [mwaitWith_of_ud d hu, hdraw]

/-- Settles O12: of everything MWAIT can do, where a #UD condition holds only the two exceptions are left,
and the draw decides between them; without leaf 05H a #UD condition holds, and only G1 and G4 are well
defined. -/
theorem faultPriorityDecidesBetweenUdAndGp : Obligations.FaultPriorityDecidesBetweenUdAndGp := by
  refine ⟨fun s hu => ?_, fun s hu hprio hmode hg => ⟨?_, ?_⟩, fun s code hleaf h => ?_,
    fun s hleaf hres hmon => ?_⟩
  · rcases mwaitWith_cases s.draw s with ⟨⟨hn, -⟩, -⟩ | ⟨-, hx⟩ | ⟨hg, heither, hx⟩
    · exact absurd hu hn
    · exact .inl hx
    · obtain ⟨hprio, hmode⟩ := heither hu
      exact .inr ⟨hprio, hmode, hg, hx⟩
  · exact ⟨{ (default : Draw) with reportGp := false }, mwaitWith_of_either _ hu hprio hmode hg⟩
  · exact ⟨{ (default : Draw) with reportGp := true }, mwaitWith_of_either _ hu hprio hmode hg⟩
  · rcases mwaitWith_fault (d := s.draw) h with ⟨hf, -⟩ | ⟨-, hg⟩
    · exact absurd hf nofun
    · exact (State.gpWellDefined_iff_of_no_leaf hleaf).mp hg
  · have hu : s.UdCondition := .inr (.inl (s.leaf05_eq_false_iff.mp hleaf))
    have hg : ¬ s.GpWellDefined := by
      rw [State.gpWellDefined_iff_of_no_leaf hleaf]
      exact not_or.mpr ⟨hres, hmon⟩
    exact exec_mwait_of_ud hu (.inr (.inr hg))

/-- Settles O13: of everything MWAIT can do, each fault hands over the state found, and nothing is a
refusal. -/
theorem faultingMwaitChangesNothing : Obligations.FaultingMwaitChangesNothing := by
  refine fun s => ⟨fun f h => mwaitWith_fault (d := s.draw) h, fun r h => ?_⟩
  rcases mwaitWith_cases s.draw s with ⟨-, hx⟩ | ⟨-, hx⟩ | ⟨-, -, hx⟩ <;> cases hx.symm.trans h

/-! ## The privilege level -/

/-- MWAIT's issue passes the privilege level through: it reads none. -/
theorem mwaitIssue_withCpl (d : Draw) (s : State) (c : BitVec 2) :
    mwaitIssue d { s with cpl := c } = { mwaitIssue d s with cpl := c } := by
  rcases mwaitIssue_cases d s with ⟨hw, hd, h⟩ | ⟨hn, h⟩
  · rw [h, mwaitIssue_of_enter (s := { s with cpl := c }) hw hd]; rfl
  · rw [h, mwaitIssue_of_not_enter (s := { s with cpl := c }) hn]; rfl

/-- In real-address mode U3 cannot hold, and no other #UD condition reads the level (41_mwait.md R61,
R76). -/
theorem mwaitInvalid_withCpl {s : State} (hm : s.mode = .real) (c : BitVec 2) :
    mwaitInvalid { s with cpl := c } = mwaitInvalid s := by
  simp [mwaitInvalid, hm, State.bitMonitor, State.bitMwait]

/-- Settles O15: a level other than 0 is U3 outside real-address mode; in it the checks and the issue agree
in the two states. -/
theorem mwaitPrivilege : Obligations.MwaitPrivilege := by
  refine ⟨fun s hm hc hr => exec_mwait_of_ud (.inr (.inr (.inl ⟨hm, hc⟩))) hr, fun s c hm => ?_⟩
  have hud : mwaitInvalid { s with cpl := c } = mwaitInvalid s := mwaitInvalid_withCpl hm c
  refine ⟨fun t h => ?_, mwaitWith_fault_congr s.draw hud rfl rfl rfl⟩
  obtain ⟨hpass, rfl⟩ := mwaitWith_next (d := s.draw) h
  have hpass' : State.MwaitPasses { s with cpl := c } := by
    rw [State.mwaitPasses_iff_checks, hud]
    exact s.mwaitPasses_iff_checks.mp hpass
  rw [← mwaitIssue_withCpl]
  exact mwaitWith_passes s.draw hpass'

/-! ## Events at an instruction boundary -/

/-- Every element of the list is picked by its own index (X16). -/
theorem exists_pick_eq {j k : EventKind} {ks : List EventKind} (h : j ∈ k :: ks) :
    ∃ n, pick n k ks = j := by
  obtain ⟨n, hn, rfl⟩ := List.getElem_of_mem h
  have hmod : n % (ks.length + 1) = n := Nat.mod_eq_of_lt hn
  exact ⟨n, by rw [pick, hmod, List.getD_eq_getElem _ _ hn]⟩

/-- Every deliverable event is delivered by some draw (60_exceptions.md R97, X16). -/
theorem exists_boundaryEvent_eq {s : State} {k : EventKind} (h : k ∈ s.deliverable) :
    ∃ d, boundaryEvent d s = some k := by
  cases hd : s.deliverable with
  | nil => rw [hd] at h; cases h
  | cons j js =>
    rw [hd] at h
    obtain ⟨n, hn⟩ := exists_pick_eq h
    exact ⟨{ (default : Draw) with deliver := true, which := n }, by simp [boundaryEvent, hd, hn]⟩

/-- Only external interrupts can be masked, and they do not leave the scope (60_exceptions.md R96, D26). -/
theorem State.masked_of_leavesScope (s : State) {k : EventKind} (h : leavesScope k = true) :
    s.masked k = false := by
  cases k with
  | extInt => cases h
  | nmi | smi | machineCheck | debug | binit | init | reset | implDependent => rfl

/-- Settles O32: what a delivered event tells, the draw that picks a deliverable one, and the events that
leave the scope, which force a delivery. -/
theorem boundaryDeliversPendingUnmaskedEvents : Obligations.BoundaryDeliversPendingUnmaskedEvents := by
  refine ⟨fun s k t h => ?_, fun s k hp hm => exists_boundaryEvent_eq ((s.mem_deliverable k).mpr ⟨hp, hm⟩),
    fun s k hmoves hr hp hk => ?_⟩
  · obtain ⟨hmoves, hr, hb, rfl⟩ := step_event_cases h
    obtain ⟨hp, hm⟩ := boundaryEvent_some hb
    exact ⟨hmoves, hr, hp, hm, rfl, rfl⟩
  · have hleaves : leavesScope k = true := by rcases hk with rfl | rfl | rfl | rfl | rfl <;> rfl
    have hmem : k ∈ s.deliverable := (s.mem_deliverable k).mpr ⟨hp, s.masked_of_leavesScope hleaves⟩
    obtain ⟨j, hj⟩ := boundaryEvent_forced (d := s.draw) hmem hleaves
    exact ⟨j, _, step_of_boundaryEvent hmoves hr hj⟩

/-! ## The virtualized feature -/

section

variable {s : State} {c : Config} {v : VmmIntercept} (hcfg : s.cfg = guestConfig c v)
include hcfg

theorem State.bitMonitor_of_guestConfig : s.bitMonitor = false := by
  simp [State.bitMonitor, hcfg, guestConfig]

theorem State.bitMwait_of_guestConfig : s.bitMwait = s.miscEnable := by
  simp [State.bitMwait, hcfg, guestConfig]

theorem State.bitMonitorless_of_guestConfig : s.bitMonitorless = true := by
  simp [State.bitMonitorless, hcfg, guestConfig]

/-- With the recipe's bits and no reserved or unsupported extension bit, the only #GP condition left is
that the execution is monitored (41_mwait.md R62 G4, 60_exceptions.md R99). -/
theorem State.gpCondition_iff_of_guestConfig (hres : extReserved s.ext = false)
    (hibe : s.ecx.getLsbD 0 = true → s.bitIbe = true) :
    s.GpCondition ↔ extMonitorless s.ext = false := by
  have hres' : ¬ s.GpReservedBits := by simp [← gpReserved_iff, gpReserved, hres]
  have hibe' : ¬ (s.ecx.getLsbD 0 = true ∧ s.bitIbe = false) := fun ⟨h0, hi⟩ =>
    absurd (hi.symm.trans (hibe h0)) (by decide)
  rw [State.GpCondition, s.extMonitorless_ext, State.bitMonitor_of_guestConfig hcfg,
    State.bitMonitorless_of_guestConfig hcfg]
  tauto

/-- By the plain rules MWAIT does what the VMM's answer gives: the monitorless wait, or #GP where ECX[2] is
0 (60_exceptions.md R99 item 3). -/
theorem exec_mwait_eq_vmmAnswer (hu : ¬ s.UdCondition) (hres : extReserved s.ext = false)
    (hibe : s.ecx.getLsbD 0 = true → s.bitIbe = true) : exec .mwait s = vmmAnswer .mwait s := by
  have hgp := State.gpCondition_iff_of_guestConfig hcfg hres hibe
  cases he : extMonitorless s.ext with
  | true =>
    have hpass : s.MwaitPasses := ⟨hu, by simp [hgp, he]⟩
    exact (mwaitWith_passes s.draw hpass).trans (if_pos he).symm
  | false => exact (mwaitWith_of_gp s.draw hu (hgp.mpr he)).trans (if_neg (by simp [he])).symm

end

/-- Where the VMM's answer is what the plain rules give, interception changes nothing. -/
theorem guestExec_of_exec_eq {i : Instr} {s : State} (h : exec i s = vmmAnswer i s) :
    guestExec i s = exec i s := by
  rcases guestExec_cases i s with ⟨-, hg⟩ | ⟨-, hg⟩
  · exact hg.trans h.symm
  · exact hg

/-- Settles O51: with `m` = 0 MONITOR is #UD, with `w` = 1 no #UD condition of MWAIT is left, and CPUID
is presented as the configuration has it. -/
theorem guestCannotTellTheVirtualizedFeature : Obligations.GuestCannotTellTheVirtualizedFeature := by
  refine ⟨fun s c v i hcfg hbit hmode hlevel hres hibe => ?_, fun s i hnone => ?_⟩
  · have hx : exec i s = vmmAnswer i s := by
      cases i with
      | monitor => exact exec_monitor_of_not_bitMonitor (State.bitMonitor_of_guestConfig hcfg)
      | mwait =>
        have hleaf : s.leaf05 = true :=
          s.leaf05_iff.mpr (.inr ((State.bitMwait_of_guestConfig hcfg).trans hbit))
        exact exec_mwait_eq_vmmAnswer hcfg (State.not_udCondition_of_leaf05 hmode hlevel hleaf) hres hibe
      | cpuid => rfl
    exact ⟨hx, guestExec_of_exec_eq hx⟩
  · rcases guestExec_cases i s with ⟨hi, -⟩ | ⟨-, hg⟩
    · exact absurd (hi.symm.trans (intercepted_of_absent hnone i)) (by decide)
    · exact hg

end Sys2Proof.Machine
end

section
/-! SUPPORT. Proofs of the family 70_reset_and_hazards.md: one MONITOR per MWAIT, and the store before arming
that the monitor does not see. -/

namespace Sys2Proof.Machine

/-! ## What MWAIT sees of a store, of MONITOR and of an MWAIT before it -/

@[simp] theorem agentStore_ext (d : Draw) (g : Agent) (a : Nat) (bs : List Byte) (s : State) :
    (agentStore d g a bs s).ext = s.ext := State.ext_congr rfl rfl

@[simp] theorem monitorResult_ext (d : Draw) (s : State) : (monitorResult d s).ext = s.ext :=
  State.ext_congr rfl rfl

@[simp] theorem mwaitIssue_ecx (d : Draw) (s : State) : (mwaitIssue d s).ecx = s.ecx :=
  congrArg (BitVec.setWidth 32) (mwaitIssue_rcx d s)

theorem mwaitPasses_agentStore_iff (d : Draw) (g : Agent) (a : Nat) (bs : List Byte) (s : State) :
    (agentStore d g a bs s).MwaitPasses ↔ s.MwaitPasses :=
  State.mwaitPasses_congr rfl rfl rfl rfl rfl

theorem mwaitPasses_monitorResult_iff (d : Draw) (s : State) :
    (monitorResult d s).MwaitPasses ↔ s.MwaitPasses :=
  State.mwaitPasses_congr rfl rfl rfl rfl rfl

theorem mwaitPasses_mwaitIssue_iff (d : Draw) (s : State) :
    (mwaitIssue d s).MwaitPasses ↔ s.MwaitPasses :=
  State.mwaitPasses_congr (mwaitIssue_rcx ..) (mwaitIssue_mode ..) (mwaitIssue_cpl ..)
    (mwaitIssue_miscEnable ..) (mwaitIssue_cfg ..)

/-! ## One MONITOR per MWAIT -/

/-- A monitored MWAIT that goes on executing leaves the monitor triggered (41_mwait.md R73). -/
theorem monitor_triggered_of_monitored_mwait {s t : State} (hr : s.run = .executing)
    (he : s.ecx.getLsbD 2 = false) (h : exec .mwait s = .next t) (ht : t.run = .executing) :
    t.monitor = .triggered := by
  obtain ⟨hissue, -⟩ := completedMwaitTriggersTheMonitor
  exact (hissue s t hr h ht).resolve_right fun ⟨hl, _⟩ => Bool.false_ne_true (he.symm.trans hl)

/-- A monitored MWAIT on a triggered monitor goes on executing and leaves it triggered (41_mwait.md R64,
R73). -/
theorem exec_mwait_of_triggered {s : State} (hr : s.run = .executing) (hpass : s.MwaitPasses)
    (he : s.ecx.getLsbD 2 = false) (hm : s.monitor = .triggered) :
    ∃ u, exec .mwait s = .next u ∧ u.run = .executing ∧ u.monitor = .triggered := by
  have hnext := mwaitWith_passes s.draw hpass
  have hrun := (mwaitIssue_run_of_not_armed s.draw he (by simp [hm])).trans hr
  exact ⟨_, hnext, hrun, monitor_triggered_of_monitored_mwait hr he hnext hrun⟩

/-- Settles O20: completing triggers the monitor and leaves what MWAIT's checks read, so a second MWAIT finds
the monitor triggered; MONITOR is its result, which writes the monitor, pc and the counter. -/
theorem secondMonitoredMwaitDoesNotWait : Obligations.SecondMonitoredMwaitDoesNotWait := by
  refine ⟨fun s t hr he h ht => ?_, fun s t hint e hr he hm h ht => ?_, fun s t h => ?_⟩
  · have htrig : t.monitor = .triggered := monitor_triggered_of_monitored_mwait hr he h ht
    obtain ⟨hpass, rfl⟩ := mwaitWith_next (d := s.draw) h
    have he' : (mwaitIssue s.draw s).ecx.getLsbD 2 = false := by rwa [mwaitIssue_ecx]
    have hpass' := (mwaitPasses_mwaitIssue_iff s.draw s).mpr hpass
    exact ⟨htrig, exec_mwait_of_triggered ht hpass' he' htrig⟩
  · obtain ⟨-, hwake, -⟩ := completedMwaitTriggersTheMonitor
    exact (hwake s t hint e hr hm h ht).resolve_right fun ⟨hl, _⟩ =>
      Bool.false_ne_true (he.symm.trans hl)
  · obtain rfl := exec_monitor_next h
    rfl

/-! ## A store before arming -/

/-- MONITOR arms where the draw says so and the ranges have a byte (42_monitor_hlt.md R80, D27). -/
theorem monitorResult_monitor_of_arm {d : Draw} {s : State} (hd : d.arm = true)
    (hsize : 0 < s.cfg.rangeSize) :
    (monitorResult d s).monitor = .armed (drawnRange d s.cfg.rangeSize s.monitorAddress) :=
  (monitorResult_monitor d s).trans (if_pos (by simp [hd, hsize]))

/-- With the monitor armed and nothing pending no named break event is present (41_mwait.md R69). -/
theorem State.not_breakEvent_of_armed {s : State} {r : Range} (hm : s.monitor = .armed r)
    (hp : s.pending = .none) (e : Word64) : ¬ s.BreakEvent e := by
  simp [State.BreakEvent, hm, hp, Pending.none]

/-- MWAIT on an armed monitor with nothing pending enters, where the draw says so, a wait with no named break
event present (41_mwait.md R64, R69, D3). -/
theorem mwaitWith_waits_of_armed {d : Draw} {s : State} {r : Range} (hpass : s.MwaitPasses)
    (hm : s.monitor = .armed r) (hp : s.pending = .none) (hd : d.enter = true) :
    ∃ u, mwaitWith d s = .next u ∧ u.run = .optimized s.eax s.ext ∧ u.monitor = .armed r
      ∧ ¬ u.BreakEvent s.ext := by
  have henter := mwaitIssue_of_enter ((mwaitCanWait_iff s).mpr (.inr ⟨r, hm⟩)) hd
  refine ⟨_, mwaitWith_passes d hpass, ?_⟩
  rw [henter]
  exact ⟨rfl, hm, State.not_breakEvent_of_armed (r := r) hm hp _⟩

/-- Settles O42: MONITOR arms whatever the store did to the monitor before it, and MWAIT finds the monitor
armed, its checks passed and nothing pending, as they were before the store. -/
theorem storeBeforeArmingMayBeWaitedFor : Obligations.StoreBeforeArmingMayBeWaitedFor := by
  intro s g a bs d1 d2 d3 _ hpass _ hsize hp harm henter
  have hpass' : (monitorResult d2 (agentStore d1 g a bs s)).MwaitPasses :=
    (mwaitPasses_monitorResult_iff ..).mpr ((mwaitPasses_agentStore_iff ..).mpr hpass)
  have harmed := monitorResult_monitor_of_arm (s := agentStore d1 g a bs s) harm hsize
  have hp' : (monitorResult d2 (agentStore d1 g a bs s)).pending = .none := by simpa using hp
  obtain ⟨u, hnext, hwait⟩ := mwaitWith_waits_of_armed hpass' harmed hp' henter
  exact ⟨u, _, hnext, by simpa using hwait⟩

end Sys2Proof.Machine
end
